-- ==== Sys2Proof/Word.lean ====
section
/-! DEFINITION. The words of the block: row words, command words and the operand fields (10_state.md R20, 30_encoding.md R91). -/

namespace Sys2Proof

/-- A row state word: one bit per column, 1 = pressed, bit c is column c (10_state.md R20, 20_memory.md R62). -/
abbrev RowWord := BitVec 16

/-- A command word, the block's only instruction format (30_encoding.md R91, R97). -/
abbrev CommandWord := BitVec 16

/-- A response word `rsp_data` (30_encoding.md R94). -/
abbrev ResponseWord := BitVec 16

/-- The `row` operand, bits 11:4 of a command word, unsigned (30_encoding.md R91). -/
abbrev RowIndex := BitVec 8

/-- The `col` operand, bits 3:0 of a command word, unsigned (30_encoding.md R91). -/
abbrev ColIndex := BitVec 4

end Sys2Proof
end

