-- ==== Sys2Proof/Config.lean ====
section
/-! DEFINITION. The build-time parameters of a board (00_scope.md R5 to R15) and the values the spec leaves free. -/

namespace Sys2Proof

/-- POLICY, the debounce policy of a board (00_scope.md R8). -/
inductive Policy where
  /-- Design A, the swap buffer (42_debounce_swap_buffer.md). -/
  | a
  /-- Design B, the shadow buffer with a full-table commit (43_debounce_integrator.md). -/
  | b
deriving DecidableEq, Repr

/-- READ_MODE, the column read mode of a board (00_scope.md R9). -/
inductive ReadMode where
  /-- All COLS column lines as one data word. -/
  | word
  /-- Eight bits of one input register, whatever COLS is. -/
  | byte8
deriving DecidableEq, Repr

/-- The configuration record of 00_scope.md R15: what a model takes as fields of a configuration.
T_SETTLE, T_PAUSE and PINMAP are left out, because no rule of the functional model depends on them
(R11, R12, R13; notes/assumptions/14.md and 15.md). Legality is `Config.wellFormed` (R14, R282). -/
structure Config where
  /-- ROWS, 1 to 255 (R5). -/
  rows : Nat
  /-- COLS, 1 to 16, and at most 8 under BYTE8 (R6). -/
  cols : Nat
  /-- DEBOUNCE, 0 to 255 scans (R7); the type holds the range. -/
  debounce : BitVec 8
  /-- POLICY (R8). -/
  policy : Policy
  /-- READ_MODE (R9). -/
  readMode : ReadMode
  /-- GHOST_EN: whether the ghost detector is present (R10). -/
  ghostEn : Bool
deriving DecidableEq, Repr

/-- DESIGN CHOICE (notes/assumptions/1.md), unsafe: the board `State.reset` is built for. The spec names no
board (92_eei_decisions.md D36); these are the parameters of its trace T3-A (95_test_vectors.md section 5).
No statement rests on them: statements quantify over the configuration. -/
def Config.reference : Config :=
  { rows := 6, cols := 8, debounce := 5, policy := .a, readMode := .word, ghostEn := true }

/-- FREE VALUE (notes/assumptions/8.md), safe: the n-th column sample the key matrix gives once the samples
listed in the state are used up. Every sample is legal (60_exceptions.md R261); nothing is known of this one. -/
opaque Config.freeSample : Nat → BitVec 16

/-- FREE VALUE (notes/assumptions/12.md), safe: what a row index reads as in a bank that holds no word for it.
No state with `Memory.wf` and a row below ROWS reads it. -/
opaque Config.absentWord : Nat → RowWord

end Sys2Proof
end

