-- ==== Sys2Proof/Syntax.lean ====
section
/-! DEFINITION. The eight commands of the block (30_encoding.md R92), one constructor per row of the opcode table. -/

namespace Sys2Proof

/-- A command with its operands (30_encoding.md R92, R96). -/
inductive Instr where
  /-- INIT, source name `init()` (41_scan_sequencer.md R140). -/
  | init
  /-- SCAN, source name `scan()` (41_scan_sequencer.md R141). -/
  | scan
  /-- IS_MODIFIED, source names `is_modified()` and `matrix_is_modified` (44_accessors.md R201). -/
  | isModified
  /-- IS_ON row, col, source names `is_on(row, col)` and `matrix_is_on` (44_accessors.md R202). -/
  | isOn (row : RowIndex) (col : ColIndex)
  /-- GET_ROW row, source names `get_row(row)` and `matrix_get_row` (44_accessors.md R203). -/
  | getRow (row : RowIndex)
  /-- KEY_COUNT, source names `key_count()` and `matrix_key_count` (44_accessors.md R204). -/
  | keyCount
  /-- HAS_GHOST, source name `has_ghost()`, only where GHOST_EN = 1 (45_ghost_detector.md R221). -/
  | hasGhost
  /-- PRINT_DEBUG, source name `print_debug()` (45_ghost_detector.md R222). -/
  | printDebug
deriving DecidableEq, Repr

end Sys2Proof
end

