-- ==== Sys2Proof/WellFormed.lean ====
section
/-! DEFINITION. The legality of a configuration (00_scope.md R14, 70_reset_and_hazards.md R282) and which commands a board has (30_encoding.md R98). -/

namespace Sys2Proof

/-- The build-time checks of 70_reset_and_hazards.md R282: 1 <= ROWS <= 255, 1 <= COLS <= 16, and COLS <= 8
under BYTE8. The range of DEBOUNCE is in its type. -/
def Config.wellFormed (c : Config) : Bool :=
  decide (1 ≤ c.rows) && decide (c.rows ≤ 255) && decide (1 ≤ c.cols) && decide (c.cols ≤ 16) &&
    (match c.readMode with
     | .word => true
     | .byte8 => decide (c.cols ≤ 8))

/-- Constructing the configuration record (00_scope.md R14): an illegal one is refused here, at build time,
and never while the block runs. -/
def Config.build (rows cols debounce : Nat) (policy : Policy) (readMode : ReadMode) (ghostEn : Bool) :
    Option Config :=
  let c : Config :=
    { rows := rows, cols := cols, debounce := BitVec.ofNat 8 debounce, policy := policy, readMode := readMode,
      ghostEn := ghostEn }
  if debounce ≤ 255 && c.wellFormed then some c else none

/-- Whether a command is in the opcode map of a board: all are, but HAS_GHOST only where GHOST_EN = 1
(30_encoding.md R92, R98). Every operand value a field can carry is well formed; the ranges of R64 are
checked when the command is executed. -/
def Instr.wellFormed (ghostEn : Bool) : Instr → Bool
  | .init => true
  | .scan => true
  | .isModified => true
  | .isOn _ _ => true
  | .getRow _ => true
  | .keyCount => true
  | .hasGhost => ghostEn
  | .printDebug => true

end Sys2Proof
end

