-- ==== Sys2Proof/Decode.lean ====
section
/-! DEFINITION. The command decoder and encoder (30_encoding.md R91 to R93, R96 to R98). -/

namespace Sys2Proof

/-- Why a command word is reserved (30_encoding.md R93). -/
inductive Reserved where
  /-- `op` is 0x0 or 0x9 to 0xF. -/
  | noSuchOp (op : BitVec 4)
  /-- An operand field that the operation does not use is not zero. -/
  | operandNotZero
  /-- `op` is 0x7 on a board with GHOST_EN = 0 (R98). -/
  | noGhostDetector
deriving DecidableEq, Repr

/-- What a command word selects: one command, or nothing, with the reason. -/
inductive Decoded where
  | command (i : Instr)
  | reserved (why : Reserved)
deriving DecidableEq, Repr

/-- `op = cmd_word[15:12]` (30_encoding.md R91). -/
def opField (w : CommandWord) : BitVec 4 := w.extractLsb' 12 4

/-- `row = cmd_word[11:4]` (30_encoding.md R91). -/
def rowField (w : CommandWord) : RowIndex := w.extractLsb' 4 8

/-- `col = cmd_word[3:0]` (30_encoding.md R91). -/
def colField (w : CommandWord) : ColIndex := w.extractLsb' 0 4

/-- A command without operands: both operand fields must be zero (30_encoding.md R93). -/
def decodeBare (i : Instr) (w : CommandWord) : Decoded :=
  if rowField w = 0 ∧ colField w = 0 then .command i else .reserved .operandNotZero

/-- The decoder (30_encoding.md R92, R93, R98), total on every word. -/
def decode (ghostEn : Bool) (w : CommandWord) : Decoded :=
  match (opField w).toNat with
  | 1 => decodeBare .init w
  | 2 => decodeBare .scan w
  | 3 => decodeBare .isModified w
  | 4 => .command (.isOn (rowField w) (colField w))
  | 5 => if colField w = 0 then .command (.getRow (rowField w)) else .reserved .operandNotZero
  | 6 => decodeBare .keyCount w
  | 7 => if ghostEn then decodeBare .hasGhost w else .reserved .noGhostDetector
  | 8 => decodeBare .printDebug w
  | _ => .reserved (.noSuchOp (opField w))

/-- The command a word selects, where it selects one. -/
def decodedCommand (ghostEn : Bool) (w : CommandWord) : Option Instr :=
  match decode ghostEn w with
  | .command i => some i
  | .reserved _ => none

/-- The decoder on a row of spec/opcode_table.json, on a board that has every command of the table
(GHOST_EN = 1, notes/assumptions/20.md). A command is one 16-bit word (30_encoding.md R97), so no other
length decodes. -/
def decodeTableWord (nbits w : Nat) : Option Instr :=
  if nbits = 16 then (if w < 65536 then decodedCommand true (BitVec.ofNat 16 w) else none) else none

/-- Assembly of a command, `(op << 12) | (row << 4) | col` (30_encoding.md R96). -/
def assemble (op : BitVec 4) (row : RowIndex) (col : ColIndex) : CommandWord :=
  (op.setWidth 16 <<< 12) ||| (row.setWidth 16 <<< 4) ||| col.setWidth 16

/-- The word of a command: its opcode of 30_encoding.md R92, unused operands zero. -/
def encode : Instr → CommandWord
  | .init => assemble 1 0 0
  | .scan => assemble 2 0 0
  | .isModified => assemble 3 0 0
  | .isOn row col => assemble 4 row col
  | .getRow row => assemble 5 row 0
  | .keyCount => assemble 6 0 0
  | .hasGhost => assemble 7 0 0
  | .printDebug => assemble 8 0 0

/-- One row of the opcode map: `match` and `mask` of 30_encoding.md R92, and whether the row is there only
when GHOST_EN = 1. -/
structure OpcodeRow where
  mnemonic : String
  pattern : CommandWord
  mask : CommandWord
  needsGhost : Bool
deriving DecidableEq, Repr

/-- The opcode map of 30_encoding.md R92, row by row. -/
def opcodeMap : List OpcodeRow :=
  [ { mnemonic := "INIT", pattern := 0x1000, mask := 0xFFFF, needsGhost := false },
    { mnemonic := "SCAN", pattern := 0x2000, mask := 0xFFFF, needsGhost := false },
    { mnemonic := "IS_MODIFIED", pattern := 0x3000, mask := 0xFFFF, needsGhost := false },
    { mnemonic := "IS_ON", pattern := 0x4000, mask := 0xF000, needsGhost := false },
    { mnemonic := "GET_ROW", pattern := 0x5000, mask := 0xF00F, needsGhost := false },
    { mnemonic := "KEY_COUNT", pattern := 0x6000, mask := 0xFFFF, needsGhost := false },
    { mnemonic := "HAS_GHOST", pattern := 0x7000, mask := 0xFFFF, needsGhost := true },
    { mnemonic := "PRINT_DEBUG", pattern := 0x8000, mask := 0xFFFF, needsGhost := false } ]

/-- A word selects a row when `(w & mask) == match` (30_encoding.md R92) and the board has the row (R98). -/
def OpcodeRow.selectedBy (ghostEn : Bool) (w : CommandWord) (e : OpcodeRow) : Bool :=
  (w &&& e.mask == e.pattern) && (!e.needsGhost || ghostEn)

/-- The mnemonic of a command, as the opcode table spells it. -/
def Instr.mnemonic : Instr → String
  | .init => "INIT"
  | .scan => "SCAN"
  | .isModified => "IS_MODIFIED"
  | .isOn _ _ => "IS_ON"
  | .getRow _ => "GET_ROW"
  | .keyCount => "KEY_COUNT"
  | .hasGhost => "HAS_GHOST"
  | .printDebug => "PRINT_DEBUG"

end Sys2Proof
end

