-- ==== Sys2Proof/Machine/State.lean ====
section
/-! DEFINITION. The state of the block: everything 10_state.md names, the ports of 30_encoding.md R90, and what the environment will present next. -/

namespace Sys2Proof.Machine

/-- A bank index b of BUF[b] (10_state.md R21, 20_memory.md R61), and the values of the 1-bit register SEL. -/
inductive Bank where
  | zero
  | one
deriving DecidableEq, Repr

/-- `1 - b` (10_state.md R23). -/
def Bank.other : Bank → Bank
  | .zero => .one
  | .one => .zero

/-- PHASE, the phase of the sequencer that executes next (10_state.md R28, 41_scan_sequencer.md R145). -/
inductive Phase where
  | idle
  | swap
  | deselect
  | select
  | settle
  | sample
  | finalDeselect
  | count
  | respond
deriving DecidableEq, Repr

/-- The fault kinds of 60_exceptions.md R241, each a contract violation by the caller. -/
inductive FaultKind where
  /-- The accepted word is reserved (R244). -/
  | illegalCommand
  /-- A command other than INIT while INITED is 0 (R243). -/
  | notInitialised
  /-- INIT while INITED is 1 (R247). -/
  | initRepeated
  /-- `row` >= ROWS on IS_ON or GET_ROW (R245). -/
  | rowRange
  /-- `col` >= COLS on IS_ON (R246). -/
  | colRange
deriving DecidableEq, Repr

/-- What FAULT holds when it is not None: the kind, and the command word it records (10_state.md R31,
60_exceptions.md R241). -/
structure FaultRecord where
  kind : FaultKind
  word : CommandWord
deriving DecidableEq, Repr

/-- One response on the response port (30_encoding.md R94). With rsp_err = 1 there is no data: "a model gives
it no value" (notes/assumptions/9.md). -/
inductive Response where
  /-- rsp_err = 0 with its rsp_data. -/
  | data (word : ResponseWord)
  /-- rsp_err = 1. -/
  | error
deriving DecidableEq, Repr

/-- One triple of the debug port: dbg_row, dbg_word, dbg_ghost (30_encoding.md R90, 45_ghost_detector.md R222). -/
structure DebugLine where
  row : RowIndex
  word : RowWord
  ghost : Bool
deriving DecidableEq, Repr

/-- What the outside presents to the block next (30_encoding.md R90; notes/assumptions/7.md). -/
inductive Input where
  /-- The caller holds cmd_valid with this cmd_word until it is accepted (R95). -/
  | command (word : CommandWord)
  /-- rst is 1 at a rising clock edge (70_reset_and_hazards.md R280). -/
  | reset
deriving DecidableEq, Repr

/-- The row-word store, the block's only memory (20_memory.md R60, R61): two banks of row words, row r at
position r. It has no byte view (R63). -/
structure Memory where
  /-- BUF[0]. -/
  bank0 : List RowWord
  /-- BUF[1]. -/
  bank1 : List RowWord
deriving DecidableEq, Repr

/-- The state of the block (10_state.md R20 to R31, R43) with its ports. -/
@[ext]
structure State where
  /-- The build-time configuration, which nothing changes (20_memory.md R74; notes/assumptions/1.md). -/
  cfg : Config
  /-- BUF[0] and BUF[1] (R21). -/
  mem : Memory
  /-- SEL (R22), reached only through `readSel` and `writeSel`. -/
  sel : Bank
  /-- CNT, the one debounce counter (R25). -/
  cnt : BitVec 8
  /-- ROW_DIR[r], true = output (R26). -/
  rowDir : List Bool
  /-- ROW_OUT[r], true = the pin would drive high (R26). -/
  rowOut : List Bool
  /-- PHASE (R28). -/
  phase : Phase
  /-- RIDX (R28). -/
  ridx : BitVec 8
  /-- BUSY (R29). -/
  busy : Bool
  /-- INITED (R30). -/
  inited : Bool
  /-- FAULT (R31). -/
  fault : Option FaultRecord
  /-- The command words and reset edges still to come (30_encoding.md R90, R95). -/
  inputs : List Input
  /-- The answers of the key matrix still to come, one for each read of COL_IN (R27, 00_scope.md R16). -/
  samples : List (BitVec 16)
  /-- How many free column samples have been taken: the model's own counter (notes/assumptions/8.md). -/
  draws : Nat
  /-- The response port: none while rsp_valid is 0 (30_encoding.md R90, R94). -/
  rsp : Option Response
  /-- What the diagnostic sink has received, oldest first (45_ghost_detector.md R222). -/
  sink : List DebugLine
deriving DecidableEq, Repr

/-- Why a step stops with a fault: never. What the spec calls a fault is latched in the register FAULT and
answered with rsp_err = 1 (60_exceptions.md R242), and the block goes on, so this type has no constructor
(notes/assumptions/11.md). Safe: nothing is hidden behind a stop. -/
inductive Fault
deriving DecidableEq, Repr

/-- Why a step answers nothing. -/
inductive Refusal where
  /-- An instruction without a meaning in this model: raised by `exec` alone, by name. No arm raises it. Safe. -/
  | notModelled (mnemonic : String)
deriving DecidableEq, Repr

/-- The state right after hardware reset of a board with configuration c (10_state.md R39, 70_reset_and_hazards.md
R280), nothing presented by the outside. The spec gives BUF, SEL, CNT and RIDX no value here; the values named for
them are DESIGN CHOICES (notes/assumptions/2.md to 5.md), unsafe, and every read of BUF, SEL and CNT is behind
`notInitialised`. -/
def State.resetWith (c : Config) : State :=
  { cfg := c
    mem := { bank0 := List.replicate c.rows 0, bank1 := List.replicate c.rows 0 }
    sel := .zero
    cnt := 0
    rowDir := List.replicate c.rows false
    rowOut := List.replicate c.rows false
    phase := .idle
    ridx := 0
    busy := false
    inited := false
    fault := none
    inputs := []
    samples := []
    draws := 0
    rsp := none
    sink := [] }

/-- The machine right after reset, on the reference board (notes/assumptions/1.md). -/
def State.reset : State := State.resetWith Config.reference

end Sys2Proof.Machine
end

