-- ==== Sys2Proof/Machine/Ops.lean ====
section
/-! DEFINITION. The shared operations over the row-word store, the pins, SEL, the response port and FAULT, and the checks every accepted command passes through. -/

namespace Sys2Proof.Machine

/-! ## The row-word store (20_memory.md R60, R61, R65, R75) -/

/-- BUF[b], the whole bank. -/
def Memory.bank (m : Memory) : Bank → List RowWord
  | .zero => m.bank0
  | .one => m.bank1

/-- `BUF[b] <- ws`, a whole bank in one step (20_memory.md R65). -/
def Memory.setBank (m : Memory) (b : Bank) (ws : List RowWord) : Memory :=
  match b with
  | .zero => { m with bank0 := ws }
  | .one => { m with bank1 := ws }

/-- `BUF[b][r]`. A row the bank holds no word for reads as a free value (notes/assumptions/12.md). -/
def Memory.read (m : Memory) (b : Bank) (r : Nat) : RowWord :=
  ((m.bank b)[r]?).getD (Config.absentWord r)

/-- `BUF[b][r] <- v`; the unit of a write is one whole row word (20_memory.md R61). -/
def Memory.write (m : Memory) (b : Bank) (r : Nat) (v : RowWord) : Memory :=
  m.setBank b ((m.bank b).set r v)

/-- The canonical form of the store: exactly ROWS words in each bank (10_state.md R21). -/
def Memory.wf (rows : Nat) (m : Memory) : Bool :=
  m.bank0.length == rows && m.bank1.length == rows

/-- Both banks all-zero = all released (41_scan_sequencer.md R140). -/
def clearedMemory (rows : Nat) : Memory :=
  { bank0 := List.replicate rows 0, bank1 := List.replicate rows 0 }

/-! ## SEL (10_state.md R22) -/

/-- The value of SEL: the register under POLICY A, hardwired 0 under POLICY B. -/
def readSel (s : State) : Bank :=
  match s.cfg.policy with
  | .a => s.sel
  | .b => .zero

/-- `SEL <- b`: discarded under POLICY B, where SEL is hardwired. -/
def writeSel (b : Bank) (s : State) : State :=
  match s.cfg.policy with
  | .a => { s with sel := b }
  | .b => s

/-! ## The row pins (40_row_column_driver.md R120, R121, R122, R127) -/

/-- `set_direction(row r, output or input)` is `ROW_DIR[r] <- 1 or 0` (40_row_column_driver.md R127). -/
def setDirection (r : Nat) (output : Bool) (s : State) : State :=
  { s with rowDir := s.rowDir.set r output }

/-- `write(row r, v)` is `ROW_OUT[r] <- v` (40_row_column_driver.md R127). -/
def writePin (r : Nat) (v : Bool) (s : State) : State :=
  { s with rowOut := s.rowOut.set r v }

/-- DeselectAll (40_row_column_driver.md R120): every row pin an input with output 0, as one step. -/
def deselectAll (s : State) : State :=
  { s with
    rowDir := List.replicate s.cfg.rows false
    rowOut := List.replicate s.cfg.rows false }

/-- SelectRow(r) (40_row_column_driver.md R121): ROW_OUT[r] is written before ROW_DIR[r], so that the pin
never drives high. -/
def selectRow (r : Nat) (s : State) : State :=
  setDirection r true (writePin r false s)

/-- Settle (40_row_column_driver.md R122): a step that changes nothing. -/
def settle (s : State) : State := s

/-! ## The column input (10_state.md R27, 00_scope.md R16) -/

/-- The sample that the n-th read of COL_IN from here on returns: what the environment listed, and past the
list a free value (notes/assumptions/8.md). -/
def sampleAt (s : State) (n : Nat) : BitVec 16 :=
  match s.samples[n]? with
  | some x => x
  | none => Config.freeSample (s.draws + (n - s.samples.length))

/-- What one read of COL_IN leaves for the next: the listed samples move up, and a read past the list moves
the counter of free samples. -/
def dropSamples (n : Nat) (s : State) : State :=
  { s with samples := s.samples.drop n, draws := s.draws + (n - s.samples.length) }

/-! ## Sequencer registers (10_state.md R28, R29) -/

/-- `PHASE <- p`. -/
def setPhase (p : Phase) (s : State) : State := { s with phase := p }

/-- `RIDX <- r`, 8 bits. -/
def setRidx (r : Nat) (s : State) : State := { s with ridx := BitVec.ofNat 8 r }

/-- `BUSY <- v`. -/
def setBusy (v : Bool) (s : State) : State := { s with busy := v }

/-- cmd_ready: 1 exactly when BUSY is 0 and rst is 0 (30_encoding.md R90, R95). -/
def cmdReady (s : State) : Bool :=
  !s.busy && (s.inputs.head? != some .reset)

/-! ## The response port (30_encoding.md R94) and FAULT (60_exceptions.md R242) -/

/-- `respond rsp_data = d, rsp_err = 0`. -/
def respond (d : ResponseWord) (s : State) : State := { s with rsp := some (.data d) }

/-- rsp_valid is a one-cycle pulse (30_encoding.md R90): no response stands on the port. -/
def clearResponse (s : State) : State := { s with rsp := none }

/-- `raise Fault(kind)` (60_exceptions.md R242), the block's one way of taking an exception: FAULT takes the
kind and records the command word (R241), the response has rsp_err = 1, and nothing else changes. There is no
handler, no saved state and no return (R251, R252). -/
def raiseFault (k : FaultKind) (w : CommandWord) (s : State) : State :=
  { s with fault := some { kind := k, word := w }, rsp := some .error }

/-- A command accepted while FAULT is not None (60_exceptions.md R242): rsp_err = 1, and FAULT keeps the first
fault. -/
def stickyFault (s : State) : State := { s with rsp := some .error }

/-- The code of a fault kind on FAULT (60_exceptions.md R241). -/
def faultCode : FaultKind → Nat
  | .illegalCommand => 1
  | .notInitialised => 2
  | .initRepeated => 3
  | .rowRange => 4
  | .colRange => 5

/-- Hardware reset (70_reset_and_hazards.md R280), the only way out of a fault (60_exceptions.md R252): the state
of `State.resetWith` for the same board, from any phase and without a response. What belongs to the outside stays:
the inputs and samples still to come, and what the sink has received (notes/assumptions/21.md). -/
def hardwareReset (s : State) : State :=
  { State.resetWith s.cfg with
    inputs := s.inputs
    samples := s.samples
    draws := s.draws
    sink := s.sink }

/-! ## The checks of an accepted command (30_encoding.md R99) -/

/-- The row operand of a command that has one: IS_ON and GET_ROW (30_encoding.md R91). -/
def rowOperand : Instr → Option RowIndex
  | .init => none
  | .scan => none
  | .isModified => none
  | .isOn row _ => some row
  | .getRow row => some row
  | .keyCount => none
  | .hasGhost => none
  | .printDebug => none

/-- The column operand of a command that has one: IS_ON (30_encoding.md R91). -/
def colOperand : Instr → Option ColIndex
  | .init => none
  | .scan => none
  | .isModified => none
  | .isOn _ col => some col
  | .getRow _ => none
  | .keyCount => none
  | .hasGhost => none
  | .printDebug => none

/-- Check (2) of 30_encoding.md R99 for a command: it is not in the board's opcode map (R98). Words that decode
to no command at all are `refuseReserved`. -/
def reservedFault (i : Instr) (s : State) : Option FaultKind :=
  if i.wellFormed s.cfg.ghostEn then none else some .illegalCommand

/-- Check (3) of 30_encoding.md R99: INIT exactly once, and before every other command. -/
def initialisationFault (i : Instr) (s : State) : Option FaultKind :=
  match i with
  | .init => if s.inited then some .initRepeated else none
  | .scan => if s.inited then none else some .notInitialised
  | .isModified => if s.inited then none else some .notInitialised
  | .isOn _ _ => if s.inited then none else some .notInitialised
  | .getRow _ => if s.inited then none else some .notInitialised
  | .keyCount => if s.inited then none else some .notInitialised
  | .hasGhost => if s.inited then none else some .notInitialised
  | .printDebug => if s.inited then none else some .notInitialised

/-- Check (4) of 30_encoding.md R99: `row` >= ROWS for IS_ON or GET_ROW. -/
def rowFault (i : Instr) (s : State) : Option FaultKind :=
  match rowOperand i with
  | some row => if s.cfg.rows ≤ row.toNat then some .rowRange else none
  | none => none

/-- Check (5) of 30_encoding.md R99: `col` >= COLS for IS_ON. -/
def colFault (i : Instr) (s : State) : Option FaultKind :=
  match colOperand i with
  | some col => if s.cfg.cols ≤ col.toNat then some .colRange else none
  | none => none

/-- Checks (2) to (5) of 30_encoding.md R99: the first that fails decides (60_exceptions.md R248). -/
def firstFault (i : Instr) (s : State) : Option FaultKind :=
  (reservedFault i s).or ((initialisationFault i s).or ((rowFault i s).or (colFault i s)))

/-- An accepted command (30_encoding.md R99): the sticky fault first, then the other checks, and only a command
that passes all of them executes its rule. -/
def runCommand (i : Instr) (body : State → State) (s : State) : State :=
  match s.fault with
  | some _ => stickyFault s
  | none =>
    match firstFault i s with
    | some k => raiseFault k (encode i) s
    | none => body s

/-- An accepted reserved word (30_encoding.md R93, R99; 60_exceptions.md R244). -/
def refuseReserved (w : CommandWord) (s : State) : State :=
  match s.fault with
  | some _ => stickyFault s
  | none => raiseFault .illegalCommand w s

end Sys2Proof.Machine
end

