-- ==== Sys2Proof/Machine/Operands.lean ====
section
/-! DEFINITION. The roles of the two banks, the words a command reads, and the column read path (10_state.md R23, R24; 40_row_column_driver.md R123; 44_accessors.md R200). -/

namespace Sys2Proof.Machine

/-- `current` under POLICY A: BUF[SEL] (10_state.md R23). -/
def currentBank (s : State) : Bank := readSel s

/-- `previous` under POLICY A: BUF[1-SEL] (10_state.md R23). -/
def previousBank (s : State) : Bank := (readSel s).other

/-- WT, the bank a scan writes: SEL under POLICY A, 1 under POLICY B (10_state.md R23, R24). -/
def writeTarget (s : State) : Bank :=
  match s.cfg.policy with
  | .a => readSel s
  | .b => .one

/-- CM, the committed bank, which the accessors read: SEL under POLICY A, 0 under POLICY B (44_accessors.md R200). -/
def committedBank (s : State) : Bank :=
  match s.cfg.policy with
  | .a => readSel s
  | .b => .zero

/-- BUF[CM][r]. -/
def committedWord (s : State) (r : Nat) : RowWord := s.mem.read (committedBank s) r

/-- BUF[CM][row][col], one bit (44_accessors.md R202). -/
def committedBit (s : State) (r c : Nat) : Bool := (committedWord s r).getLsbD c

/-- W, the read width: COLS under WORD, 8 under BYTE8 (00_scope.md R9). -/
def readWidth (c : Config) : Nat :=
  match c.readMode with
  | .word => c.cols
  | .byte8 => 8

/-- `zext_16(~raw[W-1:0])`: the complement is taken at width W, so the bits above stay 0
(40_row_column_driver.md R123). -/
def invertSample (c : Config) (raw : BitVec 16) : RowWord :=
  (~~~(raw.setWidth (readWidth c))).setWidth 16

/-- ReadCols (40_row_column_driver.md R123): one sample, inverted, and the state after the read. -/
def readCols (s : State) : RowWord × State :=
  (invertSample s.cfg (sampleAt s 0), dropSamples 1 s)

/-- The ROWS row words that a scan beginning in s reads, row 0 first (41_scan_sequencer.md R144). -/
def scanWords (s : State) : List RowWord :=
  (List.range s.cfg.rows).map fun r => invertSample s.cfg (sampleAt s r)

/-- `zext_16` of a truth value (30_encoding.md R94). -/
def boolWord (b : Bool) : ResponseWord := if b then 1 else 0

end Sys2Proof.Machine
end

