-- ==== Sys2Proof/Machine/Flags.lean ====
section
/-! DEFINITION. The values computed on demand from the state: MODIFIED, GHOST, STATUS (10_state.md R32) and the key count (44_accessors.md R204). -/

namespace Sys2Proof.Machine

/-- Modified_A (42_debounce_swap_buffer.md R163): false in a debounce window, else whether `current` and
`previous` differ in some row. -/
def modifiedA (s : State) : Bool :=
  if s.cnt = 0 then
    (List.range s.cfg.rows).any fun r => s.mem.read (currentBank s) r != s.mem.read (previousBank s) r
  else false

/-- Modified_B (43_debounce_integrator.md R183): the counter is zero. -/
def modifiedB (s : State) : Bool := s.cnt == 0

/-- MODIFIED, the result of IS_MODIFIED (44_accessors.md R201). -/
def modified (s : State) : Bool :=
  match s.cfg.policy with
  | .a => modifiedA s
  | .b => modifiedB s

/-- STATUS, the result of SCAN: success, always (41_scan_sequencer.md R143). -/
def statusSuccess : ResponseWord := 0x0001

/-- `popcount_16`, the number of 1 bits of a row word (00_scope.md section 5). -/
def popcount (x : RowWord) : Nat := (List.range 16).countP fun c => x.getLsbD c

/-- The number of 1 bits over all rows of the committed bank, untruncated (44_accessors.md R204). -/
def keyCount (s : State) : Nat :=
  ((List.range s.cfg.rows).map fun r => popcount (committedWord s r)).sum

/-- `((x - 1) & x) == 0`: x has fewer than two bits set (45_ghost_detector.md R220); the subtraction is modulo 2^16. -/
def fewerThanTwoBits (x : RowWord) : Bool := ((x - 1) &&& x) == 0

/-- GhostInRow(r) (45_ghost_detector.md R220): row r has two or more bits set and some other row contains all of
them. -/
def ghostInRow (s : State) (r : Nat) : Bool :=
  let x := committedWord s r
  if fewerThanTwoBits x then false
  else (List.range s.cfg.rows).any fun i => i != r && ((committedWord s i &&& x) == x)

/-- GHOST, the result of HAS_GHOST: some row tests positive (45_ghost_detector.md R221). -/
def ghost (s : State) : Bool := (List.range s.cfg.rows).any fun r => ghostInRow s r

end Sys2Proof.Machine
end

