-- ==== Sys2Proof/Machine/Accessors.lean ====
section
/-! DEFINITION. The accessors IS_MODIFIED, IS_ON, GET_ROW and KEY_COUNT (44_accessors.md). Each answers on the response port and changes nothing else (R205). -/

namespace Sys2Proof.Machine

/-- IS_MODIFIED (44_accessors.md R201). -/
def execIsModified (s : State) : Host.Outcome State Fault Refusal :=
  .next (runCommand .isModified (fun s => respond (boolWord (modified s)) s) s)

/-- IS_ON row, col (44_accessors.md R202); the range checks are checks (4) and (5) of `firstFault`. -/
def execIsOn (row : RowIndex) (col : ColIndex) (s : State) : Host.Outcome State Fault Refusal :=
  .next (runCommand (.isOn row col) (fun s => respond (boolWord (committedBit s row.toNat col.toNat)) s) s)

/-- GET_ROW row (44_accessors.md R203); the range check is check (4) of `firstFault`. -/
def execGetRow (row : RowIndex) (s : State) : Host.Outcome State Fault Refusal :=
  .next (runCommand (.getRow row) (fun s => respond (committedWord s row.toNat) s) s)

/-- KEY_COUNT (44_accessors.md R204); at most 255 * 16 = 4080, which 16 bits hold. -/
def execKeyCount (s : State) : Host.Outcome State Fault Refusal :=
  .next (runCommand .keyCount (fun s => respond (BitVec.ofNat 16 (keyCount s)) s) s)

end Sys2Proof.Machine
end

