-- ==== Sys2Proof/Machine/GhostDetector.lean ====
section
/-! DEFINITION. The ghost query HAS_GHOST and the debug dump PRINT_DEBUG (45_ghost_detector.md). -/

namespace Sys2Proof.Machine

/-- HAS_GHOST (45_ghost_detector.md R221); on a board without the detector it is IllegalCommand, by check (2) of
`firstFault` (30_encoding.md R98). -/
def execHasGhost (s : State) : Host.Outcome State Fault Refusal :=
  .next (runCommand .hasGhost (fun s => respond (boolWord (ghost s)) s) s)

/-- The triples PRINT_DEBUG emits, one a row in ascending order; the flag is 0 on a board without the detector
(45_ghost_detector.md R222). -/
def debugDump (s : State) : List DebugLine :=
  (List.range s.cfg.rows).map fun r =>
    { row := BitVec.ofNat 8 r, word := committedWord s r, ghost := s.cfg.ghostEn && ghostInRow s r }

/-- What PRINT_DEBUG does once its checks have passed (45_ghost_detector.md R222): it writes the diagnostic sink and
no state of 10_state.md. -/
def printDebugBody (s : State) : State :=
  respond 0x0000 { s with sink := s.sink ++ debugDump s }

/-- PRINT_DEBUG (45_ghost_detector.md R222). -/
def execPrintDebug (s : State) : Host.Outcome State Fault Refusal :=
  .next (runCommand .printDebug printDebugBody s)

end Sys2Proof.Machine
end

