-- ==== Sys2Proof/Machine/Debounce.lean ====
section
/-! DEFINITION. The three policy hooks of SCAN under both policies (42_debounce_swap_buffer.md, 43_debounce_integrator.md). -/

namespace Sys2Proof.Machine

/-- PolicyStart: under POLICY A the banks exchange roles when the counter is zero (42_debounce_swap_buffer.md R160);
under POLICY B nothing (43_debounce_integrator.md R180). -/
def policyStart (s : State) : State :=
  match s.cfg.policy with
  | .a => if s.cnt = 0 then writeSel (readSel s).other s else s
  | .b => s

/-- PolicyStage(r, w), the same under both policies on the write-target bank (41_scan_sequencer.md R142;
42_debounce_swap_buffer.md R161; 43_debounce_integrator.md R181): a difference is written at once and restarts
the counter. -/
def policyStage (r : Nat) (w : RowWord) (s : State) : State :=
  if s.mem.read (writeTarget s) r = w then s
  else { s with mem := s.mem.write (writeTarget s) r w, cnt := s.cfg.debounce }

/-- The count-down both policies share: decrement once a scan when not zero (43_debounce_integrator.md R187). -/
def countDown (s : State) : State :=
  if s.cnt = 0 then s else { s with cnt := s.cnt - 1 }

/-- `BUF[0] <- BUF[1]`, all ROWS words in one step (43_debounce_integrator.md R182). -/
def commitShadow (s : State) : State :=
  { s with mem := s.mem.setBank .zero (s.mem.bank .one) }

/-- PolicyEnd: the count-down, and under POLICY B the commit whenever the counter is then zero
(42_debounce_swap_buffer.md R162; 43_debounce_integrator.md R182, the level and not the event). The pause of R182
is timing only. -/
def policyEnd (s : State) : State :=
  match s.cfg.policy with
  | .a => countDown s
  | .b => if (countDown s).cnt = 0 then commitShadow (countDown s) else countDown s

/-- The event-triggered PolicyEnd that 43_debounce_integrator.md R185 (a) compares R182 with: under POLICY B the copy
is made only in a scan whose decrement brings CNT from 1 to 0. No command uses it. -/
def policyEndOnEvent (s : State) : State :=
  match s.cfg.policy with
  | .a => countDown s
  | .b => if s.cnt = 1 then commitShadow (countDown s) else countDown s

end Sys2Proof.Machine
end

