-- ==== Sys2Proof/Machine/Sequencer.lean ====
section
/-! DEFINITION. The scan sequencer: INIT and SCAN as commands, and the phase-by-phase machine behind SCAN (41_scan_sequencer.md). -/

namespace Sys2Proof.Machine

/-- What INIT does once its checks have passed (41_scan_sequencer.md R140). It takes no sample, and leaves RIDX as
it is (10_state.md R39). -/
def initBody (s : State) : State :=
  let s := setBusy true s
  let s := deselectAll s
  let s := { s with mem := clearedMemory s.cfg.rows }
  let s := writeSel .zero s
  let s := { s with cnt := s.cfg.debounce, inited := true }
  respond 0x0000 (setBusy false s)

/-- INIT (41_scan_sequencer.md R140). -/
def execInit (s : State) : Host.Outcome State Fault Refusal :=
  .next (runCommand .init initBody s)

/-- RowStep(r), the body of the scan loop (41_scan_sequencer.md R142). -/
def rowStep (s : State) (r : Nat) : State :=
  let s := setRidx r s
  let s := deselectAll (setPhase .deselect s)
  let s := selectRow r (setPhase .select s)
  let s := settle (setPhase .settle s)
  let s := setPhase .sample s
  policyStage r (readCols s).1 (readCols s).2

/-- The acceptance of a SCAN: BUSY is 1, no response stands on the port, and PHASE is SWAP
(41_scan_sequencer.md R141, R145). -/
def acceptScan (s : State) : State :=
  setPhase .swap (setBusy true (clearResponse s))

/-- What SCAN does once its checks have passed (41_scan_sequencer.md R141): the rows ascend, one at a time; no
fault can arise. -/
def scanBody (s : State) : State :=
  let s := policyStart (acceptScan s)
  let s := (List.range s.cfg.rows).foldl rowStep s
  let s := deselectAll (setPhase .finalDeselect s)
  let s := policyEnd (setPhase .count s)
  let s := setPhase .respond s
  respond statusSuccess (setPhase .idle (setBusy false s))

/-- SCAN (41_scan_sequencer.md R141), one transition as 30_encoding.md R95 has it for a model. -/
def execScan (s : State) : Host.Outcome State Fault Refusal :=
  .next (runCommand .scan scanBody s)

/-- One transition of the sequencer (41_scan_sequencer.md R145): the action of the phase that PHASE names, then the
next phase. IDLE has none; there is no branch but the loop test, no abort and no restart. -/
def tick (s : State) : State :=
  match s.phase with
  | .idle => s
  | .swap => setPhase .deselect (setRidx 0 (policyStart s))
  | .deselect => setPhase .select (deselectAll s)
  | .select => setPhase .settle (selectRow s.ridx.toNat s)
  | .settle => setPhase .sample (settle s)
  | .sample =>
    let t := policyStage s.ridx.toNat (readCols s).1 (readCols s).2
    if s.ridx.toNat + 1 < s.cfg.rows then setPhase .deselect (setRidx (s.ridx.toNat + 1) t)
    else setPhase .finalDeselect t
  | .finalDeselect => setPhase .count (deselectAll s)
  | .count => setPhase .respond (policyEnd s)
  | .respond => respond statusSuccess (setPhase .idle (setBusy false s))

/-- n transitions of the sequencer. -/
def ticks : Nat → State → State
  | 0, s => s
  | n + 1, s => ticks n (tick s)

/-- The policy stage for the words of a whole scan, row 0 first (41_scan_sequencer.md R144). -/
def stageRows (words : List RowWord) (s : State) : State :=
  (List.range words.length).foldl (fun s r => policyStage r (words.getD r 0) s) s

/-- SCAN as one function of the state and the samples (41_scan_sequencer.md R144), for a given PolicyEnd: the policy
hooks alone, and afterwards the pins idle. -/
def collapsedScanWith (finish : State → State) (s : State) : State :=
  let p := finish (stageRows (scanWords s) (policyStart s))
  { p with
    rowDir := List.replicate s.cfg.rows false
    rowOut := List.replicate s.cfg.rows false
    phase := .idle
    ridx := BitVec.ofNat 8 (s.cfg.rows - 1)
    busy := false
    samples := s.samples.drop s.cfg.rows
    draws := s.draws + (s.cfg.rows - s.samples.length)
    rsp := some (.data statusSuccess) }

/-- `Scan(state, s)` of 41_scan_sequencer.md R144. -/
def collapsedScan (s : State) : State := collapsedScanWith policyEnd s

end Sys2Proof.Machine
end

