-- ==== Sys2Proof/Machine/Dispatch.lean ====
section
/-! DEFINITION. The meaning of every command, one arm per constructor of Instr. -/

namespace Sys2Proof.Machine

/-- The meaning of an accepted command (30_encoding.md R95, R99); `step` calls it only while BUSY is 0. -/
def exec (i : Instr) (s : State) : Host.Outcome State Fault Refusal :=
  match i with
  | .init => Sys2Proof.Machine.execInit s
  | .scan => Sys2Proof.Machine.execScan s
  | .isModified => Sys2Proof.Machine.execIsModified s
  | .isOn row col => Sys2Proof.Machine.execIsOn row col s
  | .getRow row => Sys2Proof.Machine.execGetRow row s
  | .keyCount => Sys2Proof.Machine.execKeyCount s
  | .hasGhost => Sys2Proof.Machine.execHasGhost s
  | .printDebug => Sys2Proof.Machine.execPrintDebug s

end Sys2Proof.Machine
end

