-- ==== Sys2Proof/Machine/Step.lean ====
section
/-! DEFINITION. One step of the machine: a reset edge, a phase of the running scan, an accepted command, or an idle cycle. -/

namespace Sys2Proof.Machine

/-- An accepted command word (30_encoding.md R99): the command it selects, or IllegalCommand. -/
def acceptWord (w : CommandWord) (s : State) : Host.Outcome State Fault Refusal :=
  match decode s.cfg.ghostEn w with
  | .command i => exec i s
  | .reserved _ => .next (refuseReserved w s)

/-- One step (notes/assumptions/6.md and 7.md). A reset edge comes before everything (70_reset_and_hazards.md R280).
While BUSY is 1 the sequencer moves and a presented command waits, neither lost nor executed early (30_encoding.md
R95). While BUSY is 0 a presented command is accepted and executed as one transition. With nothing presented the
block idles with all state held (60_exceptions.md R259). -/
def step (s : State) : Host.Outcome State Fault Refusal :=
  match s.inputs with
  | .reset :: rest => .next (hardwareReset { s with inputs := rest })
  | .command w :: rest => if s.busy then .next (tick s) else acceptWord w { s with inputs := rest }
  | [] => if s.busy then .next (tick s) else .next (clearResponse s)

/-- The caller presents the command word w of nbits bits next, to an idle sequencer, so that the very next step
accepts it (notes/assumptions/7.md). -/
def State.withFetchWord (s : State) (nbits w : Nat) : State :=
  { s with
    inputs := .command (BitVec.ofNat 16 (w % 2 ^ nbits)) :: s.inputs
    phase := .idle
    busy := false }

end Sys2Proof.Machine
end

