-- ==== Sys2Proof/Safety.lean ====
section
/-! DEFINITION. The terms in which claims about the block are stated: its invariant, the state ready for a command, and runs of several scans. -/

namespace Sys2Proof.Machine

/-- The phases of the row loop, in which RIDX is meaningful (10_state.md R28). -/
def inRowLoop : Phase → Bool
  | .deselect => true
  | .select => true
  | .settle => true
  | .sample => true
  | _ => false

/-- The phases that begin with every row deselected (41_scan_sequencer.md R141, R142). -/
def pinsIdleIn : Phase → Bool
  | .idle => true
  | .swap => true
  | .select => true
  | .count => true
  | .respond => true
  | _ => false

/-- No row is driven. -/
def pinsIdle (s : State) : Prop :=
  s.rowDir = List.replicate s.cfg.rows false ∧ s.rowOut = List.replicate s.cfg.rows false

/-- What holds of the block between any two transitions, from reset on (10_state.md section 8). -/
structure Inv (s : State) : Prop where
  /-- The configuration is one of this hardware (00_scope.md R14). -/
  legal : s.cfg.wellFormed = true
  /-- Both banks hold ROWS words (10_state.md R21). -/
  store : s.mem.wf s.cfg.rows = true
  /-- ROW_DIR has ROWS bits (10_state.md R26). -/
  dirLength : s.rowDir.length = s.cfg.rows
  /-- At most one row is an output (10_state.md R37). -/
  oneRow : s.rowDir.count true ≤ 1
  /-- Every ROW_OUT is 0 (10_state.md R37). -/
  outLow : s.rowOut = List.replicate s.cfg.rows false
  /-- No row is driven in IDLE, nor in the phases after a DeselectAll (10_state.md R37). -/
  quiet : pinsIdleIn s.phase = true → s.rowDir = List.replicate s.cfg.rows false
  /-- Before a sample, exactly row RIDX is driven (20_memory.md R71, R72). -/
  driven : s.phase = .settle ∨ s.phase = .sample →
    s.rowDir = (List.replicate s.cfg.rows false).set s.ridx.toNat true
  /-- RIDX < ROWS in the row loop (10_state.md R28). -/
  rowIndex : inRowLoop s.phase = true → s.ridx.toNat < s.cfg.rows
  /-- BUSY == (PHASE != IDLE) (10_state.md R29). -/
  busyPhase : s.busy = true ↔ s.phase ≠ .idle
  /-- A scan runs only on an initialised block without a fault (30_encoding.md R99). -/
  running : s.phase ≠ .idle → s.inited = true ∧ s.fault = none
  /-- CNT <= DEBOUNCE once initialised (10_state.md R38). -/
  counter : s.inited = true → s.cnt.toNat ≤ s.cfg.debounce.toNat
  /-- The bits of every row word from W up are zero once initialised (10_state.md R36). -/
  upperBits : s.inited = true → ∀ w ∈ s.mem.bank0 ++ s.mem.bank1, w >>> readWidth s.cfg = 0
  /-- SEL is hardwired 0 under POLICY B (10_state.md R22). -/
  selWired : s.cfg.policy = .b → s.sel = .zero
  /-- Under POLICY B the published bank equals the shadow whenever the counter is zero after a completed command
  (43_debounce_integrator.md R184). -/
  published : s.cfg.policy = .b → s.inited = true → s.phase = .idle ∨ s.phase = .respond → s.cnt = 0 →
    s.mem.bank0 = s.mem.bank1

/-- The block can accept a command and has no fault (60_exceptions.md R254): every claim takes FAULT == None as a
premise (R242). -/
def Ready (s : State) : Prop := s.busy = false ∧ s.fault = none

/-- `Ready`, and INIT has been executed (10_state.md R30). -/
def Operational (s : State) : Prop := Ready s ∧ s.inited = true

/-- n SCAN commands one after another. -/
def afterScans : Nat → State → Host.Outcome State Fault Refusal
  | 0, s => .next s
  | n + 1, s =>
    match exec .scan s with
    | .next t => afterScans n t
    | .fault f => .fault f
    | .refused r => .refused r

/-- The row words that the j-th scan from here on reads (j = 0 is the next scan), row 0 first: each scan takes exactly
ROWS samples (41_scan_sequencer.md R142). -/
def upcomingWords (s : State) (j : Nat) : List RowWord :=
  (List.range s.cfg.rows).map fun r => invertSample s.cfg (sampleAt s (j * s.cfg.rows + r))

/-- The part of the state that 10_state.md names, but FAULT: equal in two states. -/
def sameRegisters (s t : State) : Prop :=
  t.cfg = s.cfg ∧ t.mem = s.mem ∧ t.sel = s.sel ∧ t.cnt = s.cnt ∧ t.rowDir = s.rowDir ∧ t.rowOut = s.rowOut ∧
    t.phase = s.phase ∧ t.ridx = s.ridx ∧ t.busy = s.busy ∧ t.inited = s.inited

/-- What the environment has still to present: equal in two states. -/
def sameEnvironment (s t : State) : Prop :=
  t.inputs = s.inputs ∧ t.samples = s.samples ∧ t.draws = s.draws

/-- Every command that only reads answers alike in two states (44_accessors.md R205). -/
def sameAnswers (s t : State) : Prop :=
  ∀ i : Instr, i ≠ .init → i ≠ .scan →
    ∃ u v, exec i s = .next u ∧ exec i t = .next v ∧ u.rsp = v.rsp

/-- s on a board with DEBOUNCE = 0 and t on the same board but for DEBOUNCE = 1, both settled, with the same committed
bank, the same other bank and the same samples to come (43_debounce_integrator.md R185 (b)). -/
structure Twins (s t : State) : Prop where
  boards : t.cfg = { s.cfg with debounce := 1 }
  zero : s.cfg.debounce = 0
  operational : Operational s ∧ Operational t
  settled : s.cnt = 0 ∧ t.cnt = 0
  samples : t.samples = s.samples ∧ t.draws = s.draws
  committed : t.mem.bank (committedBank t) = s.mem.bank (committedBank s)
  other : t.mem.bank (committedBank t).other = s.mem.bank (committedBank s).other

end Sys2Proof.Machine
end

