-- ==== Sys2Proof/Certificates/Slice0/Obligations.lean ====
section
/-! DEFINITION. The statements about the block, for the provers. -/

open Sys2Proof Sys2Proof.Machine

/-! ## Encoding (30_encoding.md) -/

/-- Tier 3. Decoding the word of a command that the board has gives the command back, for every operand
(30_encoding.md R91, R92, R96, R98). -/
def Obligations.DecodeOfEncodeIsTheCommand : Prop :=
  ∀ (g : Bool) (i : Instr), i.wellFormed g = true → decode g (encode i) = .command i

/-- Each word has one meaning: a word that decodes to a command is the word of that command, and the board has it
(30_encoding.md R92, R96, R98). -/
def Obligations.DecodedWordIsItsEncoding : Prop :=
  ∀ (g : Bool) (w : CommandWord) (i : Instr),
    decode g w = .command i → encode i = w ∧ i.wellFormed g = true

/-- A word selects a row of the opcode map when `(w & mask) == match` (30_encoding.md R92): the rows a word selects
are one row, that of its command, or none, and then the word is reserved (R93). -/
def Obligations.DecoderFollowsTheOpcodeMap : Prop :=
  ∀ (g : Bool) (w : CommandWord),
    (opcodeMap.filter (fun e => e.selectedBy g w)).map (fun e => e.mnemonic) =
      match decode g w with
      | .command i => [i.mnemonic]
      | .reserved _ => []

/-- Words written out in the spec decode to the commands it says (30_encoding.md R92, R96; 95_test_vectors.md 2.7). -/
def Obligations.WrittenWordsDecode : Prop :=
  decode true 0x1000 = .command .init ∧ decode true 0x2000 = .command .scan ∧
    decode true 0x3000 = .command .isModified ∧ decode true 0x4027 = .command (.isOn 2 7) ∧
    decode true 0x4FEF = .command (.isOn 254 15) ∧ decode true 0x5050 = .command (.getRow 5) ∧
    decode true 0x6000 = .command .keyCount ∧ decode true 0x7000 = .command .hasGhost ∧
    decode true 0x8000 = .command .printDebug ∧ decode true 0x0000 = .reserved (.noSuchOp 0) ∧
    decode true 0x5051 = .reserved .operandNotZero ∧ decode false 0x7000 = .reserved .noGhostDetector

/-! ## The step (30_encoding.md R95, R99; 60_exceptions.md; 70_reset_and_hazards.md R280) -/

/-- A step at which the presented word is a command runs that command, once the word has been taken off the port
(30_encoding.md R95, R99). That the words to come stand in a list is the model's choice (notes/assumptions/7.md). -/
def Obligations.StepRunsTheDecodedCommand : Prop :=
  ∀ (s : State) (w : CommandWord) (rest : List Input) (i : Instr),
    s.inputs = .command w :: rest → s.busy = false → decode s.cfg.ghostEn w = .command i →
    i.wellFormed s.cfg.ghostEn = true ∧ step s = exec i { s with inputs := rest }

/-- The checks on an accepted word, in the order of 30_encoding.md R99: the first that fails decides the outcome, and
only a command that passes all five is answered without a fault. -/
def Obligations.ChecksAreMadeInOrder : Prop :=
  ∀ (s : State) (w : CommandWord) (rest : List Input),
    s.inputs = .command w :: rest → s.busy = false →
    ∃ t, step s = .next t ∧
      let u := { s with inputs := rest }
      let raised := fun (k : FaultKind) => { u with fault := some { kind := k, word := w }, rsp := some .error }
      if s.fault.isSome then t = { u with rsp := some .error }
      else
        match decode s.cfg.ghostEn w with
        | .reserved _ => t = raised .illegalCommand
        | .command i =>
          if i ≠ .init ∧ s.inited = false then t = raised .notInitialised
          else if i = .init ∧ s.inited = true then t = raised .initRepeated
          else if (rowOperand i).any (fun row => s.cfg.rows ≤ row.toNat) then t = raised .rowRange
          else if (colOperand i).any (fun col => s.cfg.cols ≤ col.toNat) then t = raised .colRange
          else t.fault = none ∧ ∃ d, t.rsp = some (.data d)

/-- FAULT keeps its first fault through every step but a hardware reset (60_exceptions.md R242, R252). -/
def Obligations.FaultIsKeptUntilReset : Prop :=
  ∀ (s t : State) (f : FaultRecord),
    step s = .next t → s.fault = some f → s.inputs.head? ≠ some .reset → t.fault = some f

/-- While BUSY is 1 a presented word waits: the sequencer makes its next transition, the word stays on the port, and
neither FAULT nor the configuration changes (30_encoding.md R95). -/
def Obligations.CommandWaitsWhileBusy : Prop :=
  ∀ (s : State) (w : CommandWord) (rest : List Input),
    s.inputs = .command w :: rest → s.busy = true →
    ∃ t, step s = .next t ∧ t = tick s ∧ t.inputs = .command w :: rest ∧ t.fault = s.fault ∧ t.cfg = s.cfg ∧
      t.inited = s.inited ∧ t.sink = s.sink

/-- A reset edge, in any state and any phase: every row pin an input with output 0, PHASE IDLE, BUSY 0, INITED 0, FAULT
None, no response, and the same board (70_reset_and_hazards.md R280). -/
def Obligations.ResetEdgeRestoresTheResetState : Prop :=
  ∀ (s : State) (rest : List Input), s.inputs = .reset :: rest →
    ∃ t, step s = .next t ∧ pinsIdle t ∧ t.phase = .idle ∧ t.busy = false ∧ t.inited = false ∧ t.fault = none ∧
      t.rsp = none ∧ t.cfg = s.cfg ∧ t.inputs = rest

/-- No command hangs and no sample, store or word stops the block: every step answers a next state
(60_exceptions.md R260, R261). -/
def Obligations.EveryStepAnswersANextState : Prop :=
  ∀ s : State, ∃ t, step s = .next t

/-- Nothing changes the configuration (20_memory.md R74). -/
def Obligations.NoStepChangesTheConfiguration : Prop :=
  ∀ s t : State, step s = .next t → t.cfg = s.cfg

/-- With nothing presented and no command executing, all state is held (60_exceptions.md R259); the response pulse is
over (30_encoding.md R90). That the response stands for one step is the model's choice (notes/assumptions/9.md). -/
def Obligations.IdleCycleHoldsTheState : Prop :=
  ∀ s : State, s.inputs = [] → s.busy = false → step s = .next { s with rsp := none }

/-- INITED is set by nothing but an accepted INIT word and cleared by nothing but a reset edge (10_state.md R30). -/
def Obligations.InitedChangesOnlyByInitAndReset : Prop :=
  ∀ s t : State, step s = .next t →
    (s.inited = true → t.inited = false → s.inputs.head? = some .reset) ∧
      (s.inited = false → t.inited = true → s.inputs.head? = some (.command 0x1000))

/-- While the sequencer is idle, only the words of INIT and SCAN change the row-word store, SEL, CNT, the row pins or
RIDX (10_state.md R21, R43; 20_memory.md R69). -/
def Obligations.OnlyInitAndScanChangeTheStore : Prop :=
  ∀ (s t : State) (w : CommandWord) (rest : List Input),
    s.inputs = .command w :: rest → s.busy = false → step s = .next t → w ≠ 0x1000 → w ≠ 0x2000 →
    sameRegisters s t

/-! ## The invariant (10_state.md section 8) -/

/-- Tier 3. Every step keeps the invariant: the shape of the store, one row driven at a time (10_state.md R37), BUSY with
PHASE (R29), the bounds of RIDX and CNT (R28, R38), the zero upper bits (R36), SEL under POLICY B (R22), and the
published bank under POLICY B (43_debounce_integrator.md R184). -/
def Obligations.EveryStepKeepsTheInvariant : Prop :=
  ∀ s t : State, Inv s → step s = .next t → Inv t

/-- The invariant holds after hardware reset of every legal board, the reference board among them. -/
def Obligations.InvariantHoldsAfterReset : Prop :=
  Inv State.reset ∧ ∀ c : Config, c.wellFormed = true → Inv (State.resetWith c)

/-! ## INIT (41_scan_sequencer.md R140) -/

/-- INIT on a block that is not initialised: pins idle, both banks zero, CNT = DEBOUNCE, SEL = 0, INITED = 1, response
0x0000, and nothing else. A second INIT: InitRepeated is latched with the word of INIT, and nothing else changes
(41_scan_sequencer.md R140). SEL is read through `readSel`, which hardwires it under POLICY B (10_state.md R22). That INIT
leaves RIDX as it is, which R39 leaves unspecified, is the model's choice (notes/assumptions/5.md). -/
def Obligations.InitResult : Prop :=
  ∀ s : State, s.fault = none →
    (s.inited = false →
      ∃ t, exec .init s = .next t ∧ readSel t = .zero ∧
        t = { s with
              mem := { bank0 := List.replicate s.cfg.rows 0, bank1 := List.replicate s.cfg.rows 0 }
              sel := t.sel
              cnt := s.cfg.debounce
              rowDir := List.replicate s.cfg.rows false
              rowOut := List.replicate s.cfg.rows false
              busy := false
              inited := true
              rsp := some (.data 0x0000) }) ∧
    (s.inited = true →
      exec .init s =
        .next { s with fault := some { kind := .initRepeated, word := 0x1000 }, rsp := some .error })

/-- The values computed from the state right after INIT (10_state.md R32): MODIFIED is 0 but under POLICY B with
DEBOUNCE = 0, where it is 1, and GHOST is 0. -/
def Obligations.ModifiedAndGhostAfterInit : Prop :=
  ∀ s t : State, s.fault = none → s.inited = false → exec .init s = .next t →
    (modified t = true ↔ s.cfg.policy = .b ∧ s.cfg.debounce = 0) ∧ ghost t = false

/-- Every other command of the board before INIT: NotInitialised is latched with the command word, and nothing else
changes (60_exceptions.md R243). -/
def Obligations.CommandBeforeInitFaults : Prop :=
  ∀ (s : State) (i : Instr), i ≠ .init → i.wellFormed s.cfg.ghostEn = true → s.fault = none → s.inited = false →
    exec i s = .next { s with fault := some { kind := .notInitialised, word := encode i }, rsp := some .error }

/-- After INIT with DEBOUNCE = D >= 1, scans that read nothing pressed count the window down: CNT is D - k after k scans,
both banks stay zero, and IS_MODIFIED is 0 until scan D (70_reset_and_hazards.md R283). -/
def Obligations.FirstScansAfterInitAreAWindow : Prop :=
  ∀ s s0 : State, s.cfg.wellFormed = true → Ready s → s.inited = false → s.cfg.debounce ≠ 0 →
    exec .init s = .next s0 →
    (∀ j, j < s.cfg.debounce.toNat → upcomingWords s0 j = List.replicate s.cfg.rows 0) →
    ∀ k, k ≤ s.cfg.debounce.toNat →
      ∃ t, afterScans k s0 = .next t ∧ t.cnt.toNat = s.cfg.debounce.toNat - k ∧ t.mem = s0.mem ∧
        (k < s.cfg.debounce.toNat → modified t = false)

/-! ## SCAN (41_scan_sequencer.md, 42_debounce_swap_buffer.md, 43_debounce_integrator.md) -/

/-- An initialised block without a fault completes every scan, whatever the samples: status success, the sequencer idle,
every row released, exactly ROWS samples taken, and FAULT, INITED, the configuration and the ports as before
(41_scan_sequencer.md R141, R143, R146; 60_exceptions.md R261). How taken samples are counted is the model's choice
(notes/assumptions/8.md). -/
def Obligations.ScanCompletes : Prop :=
  ∀ s : State, s.fault = none → s.inited = true →
    ∃ t, exec .scan s = .next t ∧ t.rsp = some (.data 0x0001) ∧ t.phase = .idle ∧ t.busy = false ∧ pinsIdle t ∧
      t.samples = s.samples.drop s.cfg.rows ∧ t.draws = s.draws + (s.cfg.rows - s.samples.length) ∧
      t.fault = none ∧ t.inited = true ∧ t.cfg = s.cfg ∧ t.inputs = s.inputs ∧ t.sink = s.sink

/-- A whole SCAN, with its row steps and pin writes, is the one function of 41_scan_sequencer.md R144 of the state
before it and of the ROWS samples in row order. That RIDX keeps its last value (notes/assumptions/5.md) and how samples
are counted (8.md) are the model's choices. -/
def Obligations.ScanIsOneTransition : Prop :=
  ∀ s : State, s.cfg.wellFormed = true → s.fault = none → s.inited = true →
    exec .scan s = .next (collapsedScan s)

/-- The phase machine of 41_scan_sequencer.md R145 carries an accepted SCAN to the state the command gives, in
4 ROWS + 4 transitions, and BUSY is 1 at every state on the way (10_state.md R29). That the two forms of SCAN stand side
by side (notes/assumptions/6.md), that RIDX keeps its last value (5.md) and how samples are counted (8.md) are the model's
choices. -/
def Obligations.PhasesMakeUpTheScan : Prop :=
  ∀ s : State, s.cfg.wellFormed = true → s.fault = none → s.inited = true →
    exec .scan s = .next (ticks (4 * s.cfg.rows + 4) (acceptScan s)) ∧
      ∀ k, k < 4 * s.cfg.rows + 4 → (ticks k (acceptScan s)).busy = true

/-- The phases of a running scan follow the fixed order of 41_scan_sequencer.md R145, one a step: RIDX begins at 0 and
advances by 1 after each SAMPLE but the last, and there is no branch but the loop test. That RIDX keeps its value outside
the row loop is the model's choice (notes/assumptions/5.md). -/
def Obligations.PhasesFollowTheFixedOrder : Prop :=
  ∀ s : State, Inv s → s.busy = true → s.inputs.head? ≠ some .reset →
    ∃ t, step s = .next t ∧
      t.phase =
        (match s.phase with
         | .idle => .idle
         | .swap => .deselect
         | .deselect => .select
         | .select => .settle
         | .settle => .sample
         | .sample => if s.ridx.toNat + 1 < s.cfg.rows then .deselect else .finalDeselect
         | .finalDeselect => .count
         | .count => .respond
         | .respond => .idle) ∧
      t.ridx.toNat =
        (match s.phase with
         | .swap => 0
         | .sample => if s.ridx.toNat + 1 < s.cfg.rows then s.ridx.toNat + 1 else s.ridx.toNat
         | _ => s.ridx.toNat)

/-- After a completed scan the write-target bank holds the words that the scan read, row for row (20_memory.md R76). -/
def Obligations.WriteTargetHoldsTheReads : Prop :=
  ∀ s t : State, s.cfg.wellFormed = true → s.mem.wf s.cfg.rows = true → s.fault = none → s.inited = true → exec .scan s = .next t →
    t.mem.bank (writeTarget t) = scanWords s

/-- Under POLICY A a scan swaps the roles of the banks exactly when it begins with CNT = 0: SEL is inverted, the write
target of the scan is the `current` bank after it, and the bank that is then `previous` keeps its words
(42_debounce_swap_buffer.md R160; 10_state.md R23). -/
def Obligations.SwapExactlyWhenSettled : Prop :=
  ∀ s t : State, s.cfg.wellFormed = true → s.cfg.policy = .a → s.fault = none → s.inited = true →
    exec .scan s = .next t →
    t.sel = (if s.cnt = 0 then s.sel.other else s.sel) ∧ writeTarget t = t.sel ∧ currentBank t = t.sel ∧
      previousBank t = t.sel.other ∧ t.mem.bank (previousBank t) = s.mem.bank (previousBank t)

/-- Under POLICY B a scan counts down once, from DEBOUNCE when its reads differ from the shadow anywhere; when CNT is then 0
it leaves the whole shadow, its own reads, in the published bank, and otherwise the published bank is as it was
(43_debounce_integrator.md R181, R182). SEL stays as it is (R180). With DEBOUNCE = 0 every scan publishes: that the model
takes this board and does not refuse it is its choice (notes/assumptions/16.md). -/
def Obligations.PublishExactlyWhenZero : Prop :=
  ∀ s t : State, s.cfg.wellFormed = true → s.cfg.policy = .b → s.mem.wf s.cfg.rows = true → s.fault = none →
    s.inited = true → exec .scan s = .next t →
    t.cnt.toNat = (if scanWords s = s.mem.bank1 then s.cnt.toNat else s.cfg.debounce.toNat) - 1 ∧
      t.mem.bank1 = scanWords s ∧ t.sel = s.sel ∧
      t.mem.bank0 = (if t.cnt = 0 then scanWords s else s.mem.bank0)

/-- The counter after a scan: a scan whose reads differ from the write-target bank anywhere restarts it at DEBOUNCE, and
every scan counts down once (43_debounce_integrator.md R187; 42_debounce_swap_buffer.md R162). The subtraction is that of
the natural numbers, so 0 stays 0. -/
def Obligations.CounterAfterScan : Prop :=
  ∀ s t : State, s.cfg.wellFormed = true → s.mem.wf s.cfg.rows = true → s.fault = none → s.inited = true → exec .scan s = .next t →
    t.cnt.toNat =
      (if scanWords s = s.mem.bank (writeTarget (policyStart s)) then s.cnt.toNat else s.cfg.debounce.toNat) - 1

/-- After a completed scan CNT <= DEBOUNCE - 1, and CNT = 0 when DEBOUNCE = 0 (10_state.md R38). -/
def Obligations.CounterBelowThresholdAfterScan : Prop :=
  ∀ s t : State, Inv s → s.fault = none → s.inited = true → exec .scan s = .next t →
    t.cnt.toNat ≤ s.cfg.debounce.toNat - 1

/-- The debounce window of both policies (42_debounce_swap_buffer.md R164; 43_debounce_integrator.md R184;
70_reset_and_hazards.md R297). With DEBOUNCE = D >= 1, when D scans in a row read the same table T, and the first of them
finds it different from its write target: after k of them CNT is D - k. Under POLICY A the committed bank shows T from the
first on, the bank that is `previous` keeps its words, and MODIFIED holds only after the D-th, when T differs from
`previous`. Under POLICY B the published bank keeps its table until the D-th publishes T, and MODIFIED holds only then. -/
def Obligations.StableReadsSettleAfterTheWindow : Prop :=
  ∀ (s : State) (T : List RowWord), Inv s → Operational s → s.cfg.debounce ≠ 0 →
    T ≠ s.mem.bank (writeTarget (policyStart s)) →
    (∀ j, j < s.cfg.debounce.toNat → upcomingWords s j = T) →
    ∀ k, 1 ≤ k → k ≤ s.cfg.debounce.toNat →
      ∃ t, afterScans k s = .next t ∧ t.cnt.toNat = s.cfg.debounce.toNat - k ∧
        (s.cfg.policy = .a →
          t.mem.bank (committedBank t) = T ∧
            t.mem.bank (previousBank t) = s.mem.bank (previousBank (policyStart s)) ∧
            (modified t = true ↔ k = s.cfg.debounce.toNat ∧ T ≠ t.mem.bank (previousBank t))) ∧
        (s.cfg.policy = .b →
          t.mem.bank0 = (if k = s.cfg.debounce.toNat then T else s.mem.bank0) ∧
            (modified t = true ↔ k = s.cfg.debounce.toNat))

/-- The undebounced change of POLICY A (42_debounce_swap_buffer.md R166): a scan that begins settled and reads exactly what
the `previous` bank holds writes nothing and leaves CNT at 0, the committed bank then shows that older table at once, and
IS_MODIFIED is 1 after it exactly when the two banks differ. -/
def Obligations.StaleBankChangeIsNotDebounced : Prop :=
  ∀ s t : State, Inv s → Operational s → s.cfg.policy = .a → s.cnt = 0 →
    scanWords s = s.mem.bank (previousBank s) → exec .scan s = .next t →
    t.mem = s.mem ∧ t.cnt = 0 ∧ currentBank t = previousBank s ∧
      (modified t = true ↔ s.mem.bank .zero ≠ s.mem.bank .one)

/-- The second window of POLICY A (42_debounce_swap_buffer.md R165): after a settled change, with `current` holding T and
`previous` something else, a scan that reads T again rewrites the stale bank, restarts the counter, and leaves MODIFIED
false. -/
def Obligations.SettledChangeOpensASecondWindow : Prop :=
  ∀ s t : State, Inv s → Operational s → s.cfg.policy = .a → s.cnt = 0 →
    s.mem.bank (currentBank s) ≠ s.mem.bank (previousBank s) →
    scanWords s = s.mem.bank (currentBank s) → exec .scan s = .next t →
    t.cnt.toNat = s.cfg.debounce.toNat - 1 ∧ t.mem.bank .zero = scanWords s ∧ t.mem.bank .one = scanWords s ∧
      modified t = false

/-- One noisy key delays everything (70_reset_and_hazards.md R291): with DEBOUNCE >= 2, a scan that reads anything but what
the write target holds leaves MODIFIED false under both policies, and under POLICY B publishes no row. -/
def Obligations.OneDifferenceHoldsOffTheCommit : Prop :=
  ∀ s t : State, Inv s → Operational s → 2 ≤ s.cfg.debounce.toNat →
    scanWords s ≠ s.mem.bank (writeTarget (policyStart s)) → exec .scan s = .next t →
    modified t = false ∧ (s.cfg.policy = .b → t.mem.bank0 = s.mem.bank0)

/-- For DEBOUNCE >= 1 the level-sensitive commit of POLICY B is the same machine as the event-triggered one: a scan
with the copy made only when the decrement brings CNT from 1 to 0 gives the same state (43_debounce_integrator.md
R185 (a)). That RIDX keeps its last value (notes/assumptions/5.md) and how samples are counted (8.md) are the model's
choices. -/
def Obligations.EventCommitIsTheSameMachine : Prop :=
  ∀ s : State, Inv s → Operational s → s.cfg.policy = .b → s.cfg.debounce ≠ 0 →
    exec .scan s = .next (collapsedScanWith policyEndOnEvent s)

/-- Tier 3. DEBOUNCE = 0 and DEBOUNCE = 1 give the same results of every accessor, and stay so through every further scan
(43_debounce_integrator.md R185 (b)). -/
def Obligations.DebounceZeroAndOneStayAlike : Prop :=
  ∀ s t : State, Inv s → Inv t → Twins s t →
    sameAnswers s t ∧
      ∃ s' t', exec .scan s = .next s' ∧ exec .scan t = .next t' ∧ Twins s' t' ∧ sameAnswers s' t'

/-- From hardware reset and INIT, the first scan on the same samples makes a board with DEBOUNCE = 0 and one with
DEBOUNCE = 1 alike (43_debounce_integrator.md R185 (b)). -/
def Obligations.DebounceZeroAndOneMeetAfterTheFirstScan : Prop :=
  ∀ (c : Config) (xs : List (BitVec 16)) (n : Nat), c.wellFormed = true → c.debounce = 0 →
    ∃ s1 t1 s2 t2,
      exec .init { State.resetWith c with samples := xs, draws := n } = .next s1 ∧
        exec .init { State.resetWith { c with debounce := 1 } with samples := xs, draws := n } = .next t1 ∧
        exec .scan s1 = .next s2 ∧ exec .scan t1 = .next t2 ∧ Twins s2 t2

/-! ## The row and column driver (40_row_column_driver.md) -/

/-- ReadCols: bit c of the row word is 1 exactly when c < W and bit c of the sample is 0; one sample is taken, and no state
of the block changes (40_row_column_driver.md R123). -/
def Obligations.ReadColsInvertsAtTheReadWidth : Prop :=
  ∀ (s : State) (c : Nat), s.cfg.wellFormed = true →
    ((readCols s).1.getLsbD c = true ↔ c < readWidth s.cfg ∧ (sampleAt s 0).getLsbD c = false) ∧
      (∀ n, sampleAt (readCols s).2 n = sampleAt s (n + 1)) ∧
      (readCols s).2 = { s with samples := (readCols s).2.samples, draws := (readCols s).2.draws }

/-- DeselectAll and then SelectRow(r): row r alone is an output, every output register is 0, and nothing but the pins
changes (40_row_column_driver.md R120, R121; 70_reset_and_hazards.md R285). -/
def Obligations.SelectDrivesOneRowAlone : Prop :=
  ∀ (s : State) (r : Nat), r < s.cfg.rows →
    let t := selectRow r (deselectAll s)
    (∀ i, i < s.cfg.rows → (t.rowDir[i]? = some (decide (i = r)) ∧ t.rowOut[i]? = some false)) ∧
      t.rowDir.count true = 1 ∧ t = { s with rowDir := t.rowDir, rowOut := t.rowOut }

/-! ## The accessors (44_accessors.md) -/

/-- IS_MODIFIED under POLICY A: 1 exactly when CNT = 0 and `current` and `previous` differ in some row
(42_debounce_swap_buffer.md R163); nothing else changes. -/
def Obligations.IsModifiedUnderPolicyA : Prop :=
  ∀ s : State, s.fault = none → s.inited = true → s.cfg.policy = .a →
    ∃ m : Bool, exec .isModified s = .next { s with rsp := some (.data (if m then 0x0001 else 0x0000)) } ∧
      (m = true ↔ s.cnt = 0 ∧ ∃ r, r < s.cfg.rows ∧ s.mem.read s.sel r ≠ s.mem.read s.sel.other r)

/-- IS_MODIFIED under POLICY B: 1 exactly when CNT = 0 (43_debounce_integrator.md R183); nothing else changes. -/
def Obligations.IsModifiedUnderPolicyB : Prop :=
  ∀ s : State, s.fault = none → s.inited = true → s.cfg.policy = .b →
    exec .isModified s = .next { s with rsp := some (.data (if s.cnt = 0 then 0x0001 else 0x0000)) }

/-- IS_ON row, col in range answers bit col of the committed word of the row, BUF[SEL] under POLICY A and BUF[0] under
POLICY B, and changes nothing else; with `row` >= ROWS, whatever the column is, RowRange is latched with the command word,
and with the row in range and `col` >= COLS, ColRange, and nothing else changes (44_accessors.md R200, R202;
60_exceptions.md R245, R246). -/
def Obligations.IsOnAnswersOneBit : Prop :=
  ∀ (s : State) (row : RowIndex) (col : ColIndex), s.fault = none → s.inited = true →
    (row.toNat < s.cfg.rows → col.toNat < s.cfg.cols →
      exec (.isOn row col) s =
        .next { s with
                rsp := some (.data (if (s.mem.read (if s.cfg.policy = .a then s.sel else .zero) row.toNat).getLsbD col.toNat
                  then 0x0001 else 0x0000)) }) ∧
    (s.cfg.rows ≤ row.toNat →
      exec (.isOn row col) s =
        .next { s with fault := some { kind := .rowRange, word := encode (.isOn row col) }, rsp := some .error }) ∧
    (row.toNat < s.cfg.rows → s.cfg.cols ≤ col.toNat →
      exec (.isOn row col) s =
        .next { s with fault := some { kind := .colRange, word := encode (.isOn row col) }, rsp := some .error })

/-- GET_ROW row in range answers the committed word of the row and changes nothing else; with `row` >= ROWS, RowRange is
latched with the command word, and nothing else changes (44_accessors.md R200, R203; 60_exceptions.md R245). -/
def Obligations.GetRowAnswersOneWord : Prop :=
  ∀ (s : State) (row : RowIndex), s.fault = none → s.inited = true →
    (row.toNat < s.cfg.rows →
      exec (.getRow row) s =
        .next { s with rsp := some (.data (s.mem.read (if s.cfg.policy = .a then s.sel else .zero) row.toNat)) }) ∧
    (s.cfg.rows ≤ row.toNat →
      exec (.getRow row) s =
        .next { s with fault := some { kind := .rowRange, word := encode (.getRow row) }, rsp := some .error })

/-- IS_ON row, col equals bit col of the response of GET_ROW row (44_accessors.md R202). -/
def Obligations.IsOnIsABitOfGetRow : Prop :=
  ∀ (s : State) (row : RowIndex) (col : ColIndex), s.fault = none → s.inited = true →
    row.toNat < s.cfg.rows → col.toNat < s.cfg.cols →
    ∃ (u v : State) (d : ResponseWord), exec (.getRow row) s = .next u ∧ exec (.isOn row col) s = .next v ∧
      u.rsp = some (.data d) ∧ v.rsp = some (.data ((d >>> col.toNat) &&& 1))

/-- KEY_COUNT answers the number of pressed positions (r, c), r a row and c a bit, of the committed bank, untruncated
(44_accessors.md R204); nothing else changes. -/
def Obligations.KeyCountCountsThePressedBits : Prop :=
  ∀ s : State, s.cfg.wellFormed = true → s.fault = none → s.inited = true →
    ∃ d : ResponseWord, exec .keyCount s = .next { s with rsp := some (.data d) } ∧
      d.toNat =
        ((List.range s.cfg.rows ×ˢ List.range 16).filter fun p => (committedWord s p.1).getLsbD p.2).length

/-- The key count is at most ROWS x W (44_accessors.md R204; 30_encoding.md R94). -/
def Obligations.KeyCountIsAtMostTheReadableBits : Prop :=
  ∀ s : State, Inv s → Operational s →
    ∃ d : ResponseWord, exec .keyCount s = .next { s with rsp := some (.data d) } ∧
      d.toNat ≤ s.cfg.rows * readWidth s.cfg

/-- The commands that only read change nothing of 10_state.md but FAULT, take no sample and leave the port's words; FAULT
changes only where the answer is an error (44_accessors.md R205; 20_memory.md R67). -/
def Obligations.AccessorsChangeNoState : Prop :=
  ∀ (s : State) (i : Instr), i ≠ .init → i ≠ .scan →
    ∃ t, exec i s = .next t ∧ sameRegisters s t ∧ sameEnvironment s t ∧ (i ≠ .printDebug → t.sink = s.sink) ∧
      (t.fault = s.fault ∨ t.rsp = some .error)

/-- A command that only reads, executed without a fault, leaves every later one its answer (20_memory.md R67;
44_accessors.md R201). -/
def Obligations.AccessorsDoNotDisturbEachOther : Prop :=
  ∀ (s t : State) (i j : Instr), i ≠ .init → i ≠ .scan → j ≠ .init → j ≠ .scan → exec i s = .next t → t.fault = none →
    ∃ u v, exec j s = .next u ∧ exec j t = .next v ∧ v.rsp = u.rsp

/-! ## The ghost detector and the debug dump (45_ghost_detector.md) -/

/-- HAS_GHOST on a board with the detector answers 1 exactly when there are two different rows i and r such that row r has
at least two bits set and row i contains row r, and changes nothing else (45_ghost_detector.md R221). On a board without
the detector it is no command: IllegalCommand is latched with its word, initialised or not, and nothing else changes
(30_encoding.md R98). -/
def Obligations.HasGhostFindsAContainedRow : Prop :=
  ∀ s : State, s.fault = none →
    (s.inited = true → s.cfg.ghostEn = true →
      ∃ g : Bool, exec .hasGhost s = .next { s with rsp := some (.data (if g then 0x0001 else 0x0000)) } ∧
        (g = true ↔ ∃ i r, i < s.cfg.rows ∧ r < s.cfg.rows ∧ i ≠ r ∧
          2 ≤ ((List.range 16).filter fun c => (committedWord s r).getLsbD c).length ∧
          committedWord s i &&& committedWord s r = committedWord s r)) ∧
    (s.cfg.ghostEn = false →
      exec .hasGhost s =
        .next { s with fault := some { kind := .illegalCommand, word := 0x7000 }, rsp := some .error })

/-- With at most one pressed key a row, or fewer than four pressed keys in all, HAS_GHOST answers 0
(45_ghost_detector.md R223 (a), (b)). -/
def Obligations.FewKeysAreNoGhost : Prop :=
  ∀ s : State, s.fault = none → s.inited = true → s.cfg.ghostEn = true →
    ((∀ r, r < s.cfg.rows → popcount (committedWord s r) ≤ 1) ∨ keyCount s < 4) →
    exec .hasGhost s = .next { s with rsp := some (.data 0x0000) }

/-- Two equal rows with at least two pressed keys make HAS_GHOST answer 1 (45_ghost_detector.md R223 (c)). -/
def Obligations.EqualRowsAreAGhost : Prop :=
  ∀ (s : State) (i r : Nat), s.fault = none → s.inited = true → s.cfg.ghostEn = true →
    i < s.cfg.rows → r < s.cfg.rows → i ≠ r → committedWord s i = committedWord s r →
    2 ≤ popcount (committedWord s r) →
    exec .hasGhost s = .next { s with rsp := some (.data 0x0001) }

/-- PRINT_DEBUG answers 0x0000 and changes no state of 10_state.md (45_ghost_detector.md R222). What the sink receives is
left out of the statement. -/
def Obligations.PrintDebugChangesNoState : Prop :=
  ∀ s : State, s.fault = none → s.inited = true →
    ∃ t, exec .printDebug s = .next t ∧ t.rsp = some (.data 0x0000) ∧ sameRegisters s t ∧ t.fault = none ∧
      sameEnvironment s t
end

