-- ==== Sys2Proof/Laws/State.lean ====
section
/-! SUPPORT. What each update of the state leaves in each field, one lemma a field and update, each by rfl. -/

namespace Sys2Proof.Machine

variable (s : State)

/-! ## setPhase -/

@[simp] theorem setPhase_cfg (p : Phase) : (setPhase p s).cfg = s.cfg := rfl
@[simp] theorem setPhase_mem (p : Phase) : (setPhase p s).mem = s.mem := rfl
@[simp] theorem setPhase_sel (p : Phase) : (setPhase p s).sel = s.sel := rfl
@[simp] theorem setPhase_cnt (p : Phase) : (setPhase p s).cnt = s.cnt := rfl
@[simp] theorem setPhase_rowDir (p : Phase) : (setPhase p s).rowDir = s.rowDir := rfl
@[simp] theorem setPhase_rowOut (p : Phase) : (setPhase p s).rowOut = s.rowOut := rfl
@[simp] theorem setPhase_phase (p : Phase) : (setPhase p s).phase = p := rfl
@[simp] theorem setPhase_ridx (p : Phase) : (setPhase p s).ridx = s.ridx := rfl
@[simp] theorem setPhase_busy (p : Phase) : (setPhase p s).busy = s.busy := rfl
@[simp] theorem setPhase_inited (p : Phase) : (setPhase p s).inited = s.inited := rfl
@[simp] theorem setPhase_fault (p : Phase) : (setPhase p s).fault = s.fault := rfl
@[simp] theorem setPhase_inputs (p : Phase) : (setPhase p s).inputs = s.inputs := rfl
@[simp] theorem setPhase_samples (p : Phase) : (setPhase p s).samples = s.samples := rfl
@[simp] theorem setPhase_draws (p : Phase) : (setPhase p s).draws = s.draws := rfl
@[simp] theorem setPhase_rsp (p : Phase) : (setPhase p s).rsp = s.rsp := rfl
@[simp] theorem setPhase_sink (p : Phase) : (setPhase p s).sink = s.sink := rfl

/-! ## setRidx -/

@[simp] theorem setRidx_cfg (r : Nat) : (setRidx r s).cfg = s.cfg := rfl
@[simp] theorem setRidx_mem (r : Nat) : (setRidx r s).mem = s.mem := rfl
@[simp] theorem setRidx_sel (r : Nat) : (setRidx r s).sel = s.sel := rfl
@[simp] theorem setRidx_cnt (r : Nat) : (setRidx r s).cnt = s.cnt := rfl
@[simp] theorem setRidx_rowDir (r : Nat) : (setRidx r s).rowDir = s.rowDir := rfl
@[simp] theorem setRidx_rowOut (r : Nat) : (setRidx r s).rowOut = s.rowOut := rfl
@[simp] theorem setRidx_phase (r : Nat) : (setRidx r s).phase = s.phase := rfl
@[simp] theorem setRidx_ridx (r : Nat) : (setRidx r s).ridx = BitVec.ofNat 8 r := rfl
@[simp] theorem setRidx_busy (r : Nat) : (setRidx r s).busy = s.busy := rfl
@[simp] theorem setRidx_inited (r : Nat) : (setRidx r s).inited = s.inited := rfl
@[simp] theorem setRidx_fault (r : Nat) : (setRidx r s).fault = s.fault := rfl
@[simp] theorem setRidx_inputs (r : Nat) : (setRidx r s).inputs = s.inputs := rfl
@[simp] theorem setRidx_samples (r : Nat) : (setRidx r s).samples = s.samples := rfl
@[simp] theorem setRidx_draws (r : Nat) : (setRidx r s).draws = s.draws := rfl
@[simp] theorem setRidx_rsp (r : Nat) : (setRidx r s).rsp = s.rsp := rfl
@[simp] theorem setRidx_sink (r : Nat) : (setRidx r s).sink = s.sink := rfl

/-! ## setBusy -/

@[simp] theorem setBusy_cfg (v : Bool) : (setBusy v s).cfg = s.cfg := rfl
@[simp] theorem setBusy_mem (v : Bool) : (setBusy v s).mem = s.mem := rfl
@[simp] theorem setBusy_sel (v : Bool) : (setBusy v s).sel = s.sel := rfl
@[simp] theorem setBusy_cnt (v : Bool) : (setBusy v s).cnt = s.cnt := rfl
@[simp] theorem setBusy_rowDir (v : Bool) : (setBusy v s).rowDir = s.rowDir := rfl
@[simp] theorem setBusy_rowOut (v : Bool) : (setBusy v s).rowOut = s.rowOut := rfl
@[simp] theorem setBusy_phase (v : Bool) : (setBusy v s).phase = s.phase := rfl
@[simp] theorem setBusy_ridx (v : Bool) : (setBusy v s).ridx = s.ridx := rfl
@[simp] theorem setBusy_busy (v : Bool) : (setBusy v s).busy = v := rfl
@[simp] theorem setBusy_inited (v : Bool) : (setBusy v s).inited = s.inited := rfl
@[simp] theorem setBusy_fault (v : Bool) : (setBusy v s).fault = s.fault := rfl
@[simp] theorem setBusy_inputs (v : Bool) : (setBusy v s).inputs = s.inputs := rfl
@[simp] theorem setBusy_samples (v : Bool) : (setBusy v s).samples = s.samples := rfl
@[simp] theorem setBusy_draws (v : Bool) : (setBusy v s).draws = s.draws := rfl
@[simp] theorem setBusy_rsp (v : Bool) : (setBusy v s).rsp = s.rsp := rfl
@[simp] theorem setBusy_sink (v : Bool) : (setBusy v s).sink = s.sink := rfl

/-! ## respond -/

@[simp] theorem respond_cfg (d : ResponseWord) : (respond d s).cfg = s.cfg := rfl
@[simp] theorem respond_mem (d : ResponseWord) : (respond d s).mem = s.mem := rfl
@[simp] theorem respond_sel (d : ResponseWord) : (respond d s).sel = s.sel := rfl
@[simp] theorem respond_cnt (d : ResponseWord) : (respond d s).cnt = s.cnt := rfl
@[simp] theorem respond_rowDir (d : ResponseWord) : (respond d s).rowDir = s.rowDir := rfl
@[simp] theorem respond_rowOut (d : ResponseWord) : (respond d s).rowOut = s.rowOut := rfl
@[simp] theorem respond_phase (d : ResponseWord) : (respond d s).phase = s.phase := rfl
@[simp] theorem respond_ridx (d : ResponseWord) : (respond d s).ridx = s.ridx := rfl
@[simp] theorem respond_busy (d : ResponseWord) : (respond d s).busy = s.busy := rfl
@[simp] theorem respond_inited (d : ResponseWord) : (respond d s).inited = s.inited := rfl
@[simp] theorem respond_fault (d : ResponseWord) : (respond d s).fault = s.fault := rfl
@[simp] theorem respond_inputs (d : ResponseWord) : (respond d s).inputs = s.inputs := rfl
@[simp] theorem respond_samples (d : ResponseWord) : (respond d s).samples = s.samples := rfl
@[simp] theorem respond_draws (d : ResponseWord) : (respond d s).draws = s.draws := rfl
@[simp] theorem respond_rsp (d : ResponseWord) : (respond d s).rsp = some (.data d) := rfl
@[simp] theorem respond_sink (d : ResponseWord) : (respond d s).sink = s.sink := rfl

/-! ## clearResponse -/

@[simp] theorem clearResponse_cfg : (clearResponse s).cfg = s.cfg := rfl
@[simp] theorem clearResponse_mem : (clearResponse s).mem = s.mem := rfl
@[simp] theorem clearResponse_sel : (clearResponse s).sel = s.sel := rfl
@[simp] theorem clearResponse_cnt : (clearResponse s).cnt = s.cnt := rfl
@[simp] theorem clearResponse_rowDir : (clearResponse s).rowDir = s.rowDir := rfl
@[simp] theorem clearResponse_rowOut : (clearResponse s).rowOut = s.rowOut := rfl
@[simp] theorem clearResponse_phase : (clearResponse s).phase = s.phase := rfl
@[simp] theorem clearResponse_ridx : (clearResponse s).ridx = s.ridx := rfl
@[simp] theorem clearResponse_busy : (clearResponse s).busy = s.busy := rfl
@[simp] theorem clearResponse_inited : (clearResponse s).inited = s.inited := rfl
@[simp] theorem clearResponse_fault : (clearResponse s).fault = s.fault := rfl
@[simp] theorem clearResponse_inputs : (clearResponse s).inputs = s.inputs := rfl
@[simp] theorem clearResponse_samples : (clearResponse s).samples = s.samples := rfl
@[simp] theorem clearResponse_draws : (clearResponse s).draws = s.draws := rfl
@[simp] theorem clearResponse_rsp : (clearResponse s).rsp = none := rfl
@[simp] theorem clearResponse_sink : (clearResponse s).sink = s.sink := rfl

/-! ## raiseFault -/

@[simp] theorem raiseFault_cfg (k : FaultKind) (w : CommandWord) : (raiseFault k w s).cfg = s.cfg := rfl
@[simp] theorem raiseFault_mem (k : FaultKind) (w : CommandWord) : (raiseFault k w s).mem = s.mem := rfl
@[simp] theorem raiseFault_sel (k : FaultKind) (w : CommandWord) : (raiseFault k w s).sel = s.sel := rfl
@[simp] theorem raiseFault_cnt (k : FaultKind) (w : CommandWord) : (raiseFault k w s).cnt = s.cnt := rfl
@[simp] theorem raiseFault_rowDir (k : FaultKind) (w : CommandWord) : (raiseFault k w s).rowDir = s.rowDir := rfl
@[simp] theorem raiseFault_rowOut (k : FaultKind) (w : CommandWord) : (raiseFault k w s).rowOut = s.rowOut := rfl
@[simp] theorem raiseFault_phase (k : FaultKind) (w : CommandWord) : (raiseFault k w s).phase = s.phase := rfl
@[simp] theorem raiseFault_ridx (k : FaultKind) (w : CommandWord) : (raiseFault k w s).ridx = s.ridx := rfl
@[simp] theorem raiseFault_busy (k : FaultKind) (w : CommandWord) : (raiseFault k w s).busy = s.busy := rfl
@[simp] theorem raiseFault_inited (k : FaultKind) (w : CommandWord) : (raiseFault k w s).inited = s.inited := rfl
@[simp] theorem raiseFault_fault (k : FaultKind) (w : CommandWord) : (raiseFault k w s).fault = some { kind := k, word := w } := rfl
@[simp] theorem raiseFault_inputs (k : FaultKind) (w : CommandWord) : (raiseFault k w s).inputs = s.inputs := rfl
@[simp] theorem raiseFault_samples (k : FaultKind) (w : CommandWord) : (raiseFault k w s).samples = s.samples := rfl
@[simp] theorem raiseFault_draws (k : FaultKind) (w : CommandWord) : (raiseFault k w s).draws = s.draws := rfl
@[simp] theorem raiseFault_rsp (k : FaultKind) (w : CommandWord) : (raiseFault k w s).rsp = some .error := rfl
@[simp] theorem raiseFault_sink (k : FaultKind) (w : CommandWord) : (raiseFault k w s).sink = s.sink := rfl

/-! ## stickyFault -/

@[simp] theorem stickyFault_cfg : (stickyFault s).cfg = s.cfg := rfl
@[simp] theorem stickyFault_mem : (stickyFault s).mem = s.mem := rfl
@[simp] theorem stickyFault_sel : (stickyFault s).sel = s.sel := rfl
@[simp] theorem stickyFault_cnt : (stickyFault s).cnt = s.cnt := rfl
@[simp] theorem stickyFault_rowDir : (stickyFault s).rowDir = s.rowDir := rfl
@[simp] theorem stickyFault_rowOut : (stickyFault s).rowOut = s.rowOut := rfl
@[simp] theorem stickyFault_phase : (stickyFault s).phase = s.phase := rfl
@[simp] theorem stickyFault_ridx : (stickyFault s).ridx = s.ridx := rfl
@[simp] theorem stickyFault_busy : (stickyFault s).busy = s.busy := rfl
@[simp] theorem stickyFault_inited : (stickyFault s).inited = s.inited := rfl
@[simp] theorem stickyFault_fault : (stickyFault s).fault = s.fault := rfl
@[simp] theorem stickyFault_inputs : (stickyFault s).inputs = s.inputs := rfl
@[simp] theorem stickyFault_samples : (stickyFault s).samples = s.samples := rfl
@[simp] theorem stickyFault_draws : (stickyFault s).draws = s.draws := rfl
@[simp] theorem stickyFault_rsp : (stickyFault s).rsp = some .error := rfl
@[simp] theorem stickyFault_sink : (stickyFault s).sink = s.sink := rfl

/-! ## deselectAll -/

@[simp] theorem deselectAll_cfg : (deselectAll s).cfg = s.cfg := rfl
@[simp] theorem deselectAll_mem : (deselectAll s).mem = s.mem := rfl
@[simp] theorem deselectAll_sel : (deselectAll s).sel = s.sel := rfl
@[simp] theorem deselectAll_cnt : (deselectAll s).cnt = s.cnt := rfl
@[simp] theorem deselectAll_rowDir : (deselectAll s).rowDir = List.replicate s.cfg.rows false := rfl
@[simp] theorem deselectAll_rowOut : (deselectAll s).rowOut = List.replicate s.cfg.rows false := rfl
@[simp] theorem deselectAll_phase : (deselectAll s).phase = s.phase := rfl
@[simp] theorem deselectAll_ridx : (deselectAll s).ridx = s.ridx := rfl
@[simp] theorem deselectAll_busy : (deselectAll s).busy = s.busy := rfl
@[simp] theorem deselectAll_inited : (deselectAll s).inited = s.inited := rfl
@[simp] theorem deselectAll_fault : (deselectAll s).fault = s.fault := rfl
@[simp] theorem deselectAll_inputs : (deselectAll s).inputs = s.inputs := rfl
@[simp] theorem deselectAll_samples : (deselectAll s).samples = s.samples := rfl
@[simp] theorem deselectAll_draws : (deselectAll s).draws = s.draws := rfl
@[simp] theorem deselectAll_rsp : (deselectAll s).rsp = s.rsp := rfl
@[simp] theorem deselectAll_sink : (deselectAll s).sink = s.sink := rfl

/-! ## selectRow -/

@[simp] theorem selectRow_cfg (r : Nat) : (selectRow r s).cfg = s.cfg := rfl
@[simp] theorem selectRow_mem (r : Nat) : (selectRow r s).mem = s.mem := rfl
@[simp] theorem selectRow_sel (r : Nat) : (selectRow r s).sel = s.sel := rfl
@[simp] theorem selectRow_cnt (r : Nat) : (selectRow r s).cnt = s.cnt := rfl
@[simp] theorem selectRow_rowDir (r : Nat) : (selectRow r s).rowDir = s.rowDir.set r true := rfl
@[simp] theorem selectRow_rowOut (r : Nat) : (selectRow r s).rowOut = s.rowOut.set r false := rfl
@[simp] theorem selectRow_phase (r : Nat) : (selectRow r s).phase = s.phase := rfl
@[simp] theorem selectRow_ridx (r : Nat) : (selectRow r s).ridx = s.ridx := rfl
@[simp] theorem selectRow_busy (r : Nat) : (selectRow r s).busy = s.busy := rfl
@[simp] theorem selectRow_inited (r : Nat) : (selectRow r s).inited = s.inited := rfl
@[simp] theorem selectRow_fault (r : Nat) : (selectRow r s).fault = s.fault := rfl
@[simp] theorem selectRow_inputs (r : Nat) : (selectRow r s).inputs = s.inputs := rfl
@[simp] theorem selectRow_samples (r : Nat) : (selectRow r s).samples = s.samples := rfl
@[simp] theorem selectRow_draws (r : Nat) : (selectRow r s).draws = s.draws := rfl
@[simp] theorem selectRow_rsp (r : Nat) : (selectRow r s).rsp = s.rsp := rfl
@[simp] theorem selectRow_sink (r : Nat) : (selectRow r s).sink = s.sink := rfl

/-! ## dropSamples -/

@[simp] theorem dropSamples_cfg (n : Nat) : (dropSamples n s).cfg = s.cfg := rfl
@[simp] theorem dropSamples_mem (n : Nat) : (dropSamples n s).mem = s.mem := rfl
@[simp] theorem dropSamples_sel (n : Nat) : (dropSamples n s).sel = s.sel := rfl
@[simp] theorem dropSamples_cnt (n : Nat) : (dropSamples n s).cnt = s.cnt := rfl
@[simp] theorem dropSamples_rowDir (n : Nat) : (dropSamples n s).rowDir = s.rowDir := rfl
@[simp] theorem dropSamples_rowOut (n : Nat) : (dropSamples n s).rowOut = s.rowOut := rfl
@[simp] theorem dropSamples_phase (n : Nat) : (dropSamples n s).phase = s.phase := rfl
@[simp] theorem dropSamples_ridx (n : Nat) : (dropSamples n s).ridx = s.ridx := rfl
@[simp] theorem dropSamples_busy (n : Nat) : (dropSamples n s).busy = s.busy := rfl
@[simp] theorem dropSamples_inited (n : Nat) : (dropSamples n s).inited = s.inited := rfl
@[simp] theorem dropSamples_fault (n : Nat) : (dropSamples n s).fault = s.fault := rfl
@[simp] theorem dropSamples_inputs (n : Nat) : (dropSamples n s).inputs = s.inputs := rfl
@[simp] theorem dropSamples_samples (n : Nat) : (dropSamples n s).samples = s.samples.drop n := rfl
@[simp] theorem dropSamples_draws (n : Nat) : (dropSamples n s).draws = s.draws + (n - s.samples.length) := rfl
@[simp] theorem dropSamples_rsp (n : Nat) : (dropSamples n s).rsp = s.rsp := rfl
@[simp] theorem dropSamples_sink (n : Nat) : (dropSamples n s).sink = s.sink := rfl

/-! ## commitShadow -/

@[simp] theorem commitShadow_cfg : (commitShadow s).cfg = s.cfg := rfl
@[simp] theorem commitShadow_mem : (commitShadow s).mem = s.mem.setBank .zero (s.mem.bank .one) := rfl
@[simp] theorem commitShadow_sel : (commitShadow s).sel = s.sel := rfl
@[simp] theorem commitShadow_cnt : (commitShadow s).cnt = s.cnt := rfl
@[simp] theorem commitShadow_rowDir : (commitShadow s).rowDir = s.rowDir := rfl
@[simp] theorem commitShadow_rowOut : (commitShadow s).rowOut = s.rowOut := rfl
@[simp] theorem commitShadow_phase : (commitShadow s).phase = s.phase := rfl
@[simp] theorem commitShadow_ridx : (commitShadow s).ridx = s.ridx := rfl
@[simp] theorem commitShadow_busy : (commitShadow s).busy = s.busy := rfl
@[simp] theorem commitShadow_inited : (commitShadow s).inited = s.inited := rfl
@[simp] theorem commitShadow_fault : (commitShadow s).fault = s.fault := rfl
@[simp] theorem commitShadow_inputs : (commitShadow s).inputs = s.inputs := rfl
@[simp] theorem commitShadow_samples : (commitShadow s).samples = s.samples := rfl
@[simp] theorem commitShadow_draws : (commitShadow s).draws = s.draws := rfl
@[simp] theorem commitShadow_rsp : (commitShadow s).rsp = s.rsp := rfl
@[simp] theorem commitShadow_sink : (commitShadow s).sink = s.sink := rfl

/-! ## hardwareReset -/

@[simp] theorem hardwareReset_cfg : (hardwareReset s).cfg = s.cfg := rfl
@[simp] theorem hardwareReset_mem : (hardwareReset s).mem = clearedMemory s.cfg.rows := rfl
@[simp] theorem hardwareReset_sel : (hardwareReset s).sel = .zero := rfl
@[simp] theorem hardwareReset_cnt : (hardwareReset s).cnt = 0 := rfl
@[simp] theorem hardwareReset_rowDir : (hardwareReset s).rowDir = List.replicate s.cfg.rows false := rfl
@[simp] theorem hardwareReset_rowOut : (hardwareReset s).rowOut = List.replicate s.cfg.rows false := rfl
@[simp] theorem hardwareReset_phase : (hardwareReset s).phase = .idle := rfl
@[simp] theorem hardwareReset_ridx : (hardwareReset s).ridx = 0 := rfl
@[simp] theorem hardwareReset_busy : (hardwareReset s).busy = false := rfl
@[simp] theorem hardwareReset_inited : (hardwareReset s).inited = false := rfl
@[simp] theorem hardwareReset_fault : (hardwareReset s).fault = none := rfl
@[simp] theorem hardwareReset_inputs : (hardwareReset s).inputs = s.inputs := rfl
@[simp] theorem hardwareReset_samples : (hardwareReset s).samples = s.samples := rfl
@[simp] theorem hardwareReset_draws : (hardwareReset s).draws = s.draws := rfl
@[simp] theorem hardwareReset_rsp : (hardwareReset s).rsp = none := rfl
@[simp] theorem hardwareReset_sink : (hardwareReset s).sink = s.sink := rfl

/-! ## acceptScan -/

@[simp] theorem acceptScan_cfg : (acceptScan s).cfg = s.cfg := rfl
@[simp] theorem acceptScan_mem : (acceptScan s).mem = s.mem := rfl
@[simp] theorem acceptScan_sel : (acceptScan s).sel = s.sel := rfl
@[simp] theorem acceptScan_cnt : (acceptScan s).cnt = s.cnt := rfl
@[simp] theorem acceptScan_rowDir : (acceptScan s).rowDir = s.rowDir := rfl
@[simp] theorem acceptScan_rowOut : (acceptScan s).rowOut = s.rowOut := rfl
@[simp] theorem acceptScan_phase : (acceptScan s).phase = .swap := rfl
@[simp] theorem acceptScan_ridx : (acceptScan s).ridx = s.ridx := rfl
@[simp] theorem acceptScan_busy : (acceptScan s).busy = true := rfl
@[simp] theorem acceptScan_inited : (acceptScan s).inited = s.inited := rfl
@[simp] theorem acceptScan_fault : (acceptScan s).fault = s.fault := rfl
@[simp] theorem acceptScan_inputs : (acceptScan s).inputs = s.inputs := rfl
@[simp] theorem acceptScan_samples : (acceptScan s).samples = s.samples := rfl
@[simp] theorem acceptScan_draws : (acceptScan s).draws = s.draws := rfl
@[simp] theorem acceptScan_rsp : (acceptScan s).rsp = none := rfl
@[simp] theorem acceptScan_sink : (acceptScan s).sink = s.sink := rfl

end Sys2Proof.Machine
end

