-- ==== Sys2Proof/Laws/Memory.lean ====
section
/-! SUPPORT. The laws of the row-word store: read after write, and the canonical form that every operation keeps. -/

namespace Sys2Proof.Machine

@[simp] theorem Bank.other_other (b : Bank) : b.other.other = b := by cases b <;> rfl

@[simp] theorem Bank.other_ne (b : Bank) : b.other ≠ b := by cases b <;> decide

theorem Bank.eq_or_eq_other (a b : Bank) : a = b ∨ a = b.other := by
  cases a <;> cases b <;> simp [Bank.other]

@[simp] theorem Memory.bank_zero (m : Memory) : m.bank .zero = m.bank0 := rfl

@[simp] theorem Memory.bank_one (m : Memory) : m.bank .one = m.bank1 := rfl

@[simp] theorem Memory.bank_setBank (m : Memory) (b : Bank) (ws : List RowWord) : (m.setBank b ws).bank b = ws := by
  cases b <;> rfl

theorem Memory.bank_setBank_ne (m : Memory) {a b : Bank} (ws : List RowWord) (h : a ≠ b) :
    (m.setBank b ws).bank a = m.bank a := by
  cases a <;> cases b <;> first | rfl | exact absurd rfl h

@[simp] theorem Memory.bank_other_setBank (m : Memory) (b : Bank) (ws : List RowWord) :
    (m.setBank b ws).bank b.other = m.bank b.other := m.bank_setBank_ne ws b.other_ne

@[simp] theorem Memory.setBank_setBank (m : Memory) (b : Bank) (us ws : List RowWord) :
    (m.setBank b us).setBank b ws = m.setBank b ws := by
  cases b <;> rfl

@[simp] theorem Memory.setBank_bank (m : Memory) (b : Bank) : m.setBank b (m.bank b) = m := by
  cases b <;> rfl

/-- Two stores with the same banks are the same. -/
theorem Memory.ext_bank {m n : Memory} (h : ∀ b, m.bank b = n.bank b) : m = n := by
  cases m; cases n
  simpa using And.intro (h .zero) (h .one)

/-- The canonical form: each bank has ROWS words. -/
theorem Memory.wf_iff {rows : Nat} {m : Memory} : m.wf rows = true ↔ ∀ b, (m.bank b).length = rows := by
  constructor
  · intro h b
    simp only [Memory.wf, Bool.and_eq_true, beq_iff_eq] at h
    cases b
    · exact h.1
    · exact h.2
  · intro h
    simp only [Memory.wf, Bool.and_eq_true, beq_iff_eq]
    exact ⟨h .zero, h .one⟩

theorem Memory.wf_length {rows : Nat} {m : Memory} (h : m.wf rows = true) (b : Bank) : (m.bank b).length = rows :=
  Memory.wf_iff.mp h b

/-- A row the bank holds reads as its word. -/
theorem Memory.read_of_lt (m : Memory) (b : Bank) {r : Nat} (h : r < (m.bank b).length) :
    m.read b r = (m.bank b)[r] := by
  simp [Memory.read, h]

/-- A read after a write to the same row gives the value written (20_memory.md R75). -/
theorem Memory.read_write_same (m : Memory) (b : Bank) (r : Nat) (v : RowWord) (h : r < (m.bank b).length) :
    (m.write b r v).read b r = v := by
  simp [Memory.read, Memory.write, h]

/-- A write leaves every other row of its bank alone. -/
theorem Memory.read_write_ne_row (m : Memory) (b : Bank) {r q : Nat} (v : RowWord) (h : q ≠ r) :
    (m.write b r v).read b q = m.read b q := by
  simp [Memory.read, Memory.write, List.getElem?_set_ne (Ne.symm h)]

/-- A write leaves the other bank alone. -/
theorem Memory.read_write_ne_bank (m : Memory) {a b : Bank} (r q : Nat) (v : RowWord) (h : a ≠ b) :
    (m.write b r v).read a q = m.read a q := by
  simp [Memory.read, Memory.write, Memory.bank_setBank_ne _ _ h]

/-- Writing a whole bank of ROWS words keeps the canonical form. -/
theorem Memory.setBank_wf {rows : Nat} {m : Memory} (h : m.wf rows = true) (b : Bank) {ws : List RowWord}
    (hw : ws.length = rows) : (m.setBank b ws).wf rows = true := by
  rw [Memory.wf_iff]
  intro a
  by_cases e : a = b
  · simp [e, hw]
  · rw [Memory.bank_setBank_ne _ _ e]
    exact Memory.wf_length h a

/-- Writing one row word keeps the canonical form. -/
theorem Memory.write_wf {rows : Nat} {m : Memory} (h : m.wf rows = true) (b : Bank) (r : Nat) (v : RowWord) :
    (m.write b r v).wf rows = true :=
  Memory.setBank_wf h b (by simp [Memory.wf_length h b])

/-- The cleared store has the canonical form. -/
@[simp] theorem clearedMemory_wf (rows : Nat) : (clearedMemory rows).wf rows = true := by
  simp [clearedMemory, Memory.wf]

/-- The store has the canonical form at reset. -/
theorem resetWith_mem_wf (c : Config) : (State.resetWith c).mem.wf c.rows = true := clearedMemory_wf c.rows

/-- Banks of the same length that read alike in every row are equal. -/
theorem Memory.bank_eq_of_read {m n : Memory} {a b : Bank} {rows : Nat} (hm : (m.bank a).length = rows)
    (hn : (n.bank b).length = rows) (h : ∀ r, r < rows → m.read a r = n.read b r) : m.bank a = n.bank b := by
  apply List.ext_getElem (by rw [hm, hn])
  intro r h1 h2
  have := h r (by omega)
  rwa [m.read_of_lt a h1, n.read_of_lt b h2] at this

/-- Two banks of ROWS words differ exactly when they differ in some row. -/
theorem Memory.bank_ne_iff {m n : Memory} {a b : Bank} {rows : Nat} (hm : (m.bank a).length = rows)
    (hn : (n.bank b).length = rows) : m.bank a ≠ n.bank b ↔ ∃ r, r < rows ∧ m.read a r ≠ n.read b r := by
  constructor
  · intro h
    by_contra hc
    push Not at hc
    exact h (Memory.bank_eq_of_read hm hn hc)
  · rintro ⟨r, _, hr⟩ e
    exact hr (by simp [Memory.read, e])

end Sys2Proof.Machine
end

