-- ==== Sys2Proof/Laws/Ops.lean ====
section
/-! SUPPORT. One lemma for each shared operation: what SEL, the column input, the checks and an accepted command can do. -/

namespace Sys2Proof.Machine

/-! ## SEL -/

/-- Under POLICY A SEL is a register. -/
theorem readSel_a {s : State} (h : s.cfg.policy = .a) : readSel s = s.sel := by simp [readSel, h]

/-- Under POLICY B SEL is hardwired 0. -/
theorem readSel_b {s : State} (h : s.cfg.policy = .b) : readSel s = .zero := by simp [readSel, h]

/-- A write of SEL writes the register under POLICY A and nothing under POLICY B. -/
theorem writeSel_eq (b : Bank) (s : State) : writeSel b s = { s with sel := if s.cfg.policy = .a then b else s.sel } := by
  cases h : s.cfg.policy <;> simp [writeSel, h]

theorem writeTarget_a {s : State} (h : s.cfg.policy = .a) : writeTarget s = s.sel := by simp [writeTarget, h, readSel_a h]

theorem writeTarget_b {s : State} (h : s.cfg.policy = .b) : writeTarget s = .one := by simp [writeTarget, h]

theorem committedBank_a {s : State} (h : s.cfg.policy = .a) : committedBank s = s.sel := by
  simp [committedBank, h, readSel_a h]

theorem committedBank_b {s : State} (h : s.cfg.policy = .b) : committedBank s = .zero := by simp [committedBank, h]

/-- The roles of the banks depend on POLICY and SEL alone. -/
theorem roles_congr {s t : State} (hc : t.cfg = s.cfg) (hs : t.sel = s.sel) :
    readSel t = readSel s ∧ writeTarget t = writeTarget s ∧ committedBank t = committedBank s := by
  simp [readSel, writeTarget, committedBank, hc, hs]

/-! ## The column input -/

/-- Taking m samples moves the later ones up. -/
@[simp] theorem sampleAt_dropSamples (m n : Nat) (s : State) : sampleAt (dropSamples m s) n = sampleAt s (m + n) := by
  simp only [sampleAt, dropSamples_samples, dropSamples_draws, List.getElem?_drop, List.length_drop]
  split
  · rfl
  · rename_i h
    have : s.samples.length ≤ m + n := List.getElem?_eq_none_iff.mp h
    congr 1
    omega

/-- Samples are taken one after another. -/
@[simp] theorem dropSamples_dropSamples (m n : Nat) (s : State) :
    dropSamples n (dropSamples m s) = dropSamples (m + n) s := by
  simp only [dropSamples, List.drop_drop, List.length_drop, State.mk.injEq, true_and, and_true]
  omega

@[simp] theorem dropSamples_zero (s : State) : dropSamples 0 s = s := by simp [dropSamples]

/-- The samples to come depend on the two environment fields alone. -/
theorem sampleAt_congr {s t : State} (hs : t.samples = s.samples) (hd : t.draws = s.draws) (n : Nat) :
    sampleAt t n = sampleAt s n := by
  simp [sampleAt, hs, hd]

/-! ## The checks and an accepted command -/

/-- What an accepted command can do (30_encoding.md R99): answer the sticky fault, raise the first fault, or execute its
rule. -/
theorem runCommand_cases (i : Instr) (body : State → State) (s : State) :
    (s.fault ≠ none ∧ runCommand i body s = stickyFault s) ∨
      (∃ k, s.fault = none ∧ firstFault i s = some k ∧ runCommand i body s = raiseFault k (encode i) s) ∨
      (s.fault = none ∧ firstFault i s = none ∧ runCommand i body s = body s) := by
  unfold runCommand
  cases hf : s.fault with
  | some f => exact .inl ⟨by simp, rfl⟩
  | none =>
    cases hk : firstFault i s with
    | some k => exact .inr (.inl ⟨k, rfl, rfl, rfl⟩)
    | none => exact .inr (.inr ⟨rfl, rfl, rfl⟩)

/-- A command without a fault that passes its checks executes its rule. -/
theorem runCommand_passes {i : Instr} {s : State} (hf : s.fault = none) (hk : firstFault i s = none)
    (body : State → State) : runCommand i body s = body s := by
  simp [runCommand, hf, hk]

/-- A command without a fault that fails a check raises the first one. -/
theorem runCommand_raises {i : Instr} {s : State} {k : FaultKind} (hf : s.fault = none) (hk : firstFault i s = some k)
    (body : State → State) : runCommand i body s = raiseFault k (encode i) s := by
  simp [runCommand, hf, hk]

/-- A command on a faulted block answers the sticky fault. -/
theorem runCommand_sticky {i : Instr} {s : State} {f : FaultRecord} (hf : s.fault = some f) (body : State → State) :
    runCommand i body s = stickyFault s := by
  simp [runCommand, hf]

/-- The check of initialisation, for every command but INIT. -/
theorem initialisationFault_of_ne {i : Instr} (h : i ≠ .init) (s : State) :
    initialisationFault i s = if s.inited then none else some .notInitialised := by
  cases i <;> first | rfl | exact absurd rfl h

/-- What the check of a reserved word can do: the sticky fault, or IllegalCommand. -/
theorem refuseReserved_cases (w : CommandWord) (s : State) :
    (s.fault ≠ none ∧ refuseReserved w s = stickyFault s) ∨
      (s.fault = none ∧ refuseReserved w s = raiseFault .illegalCommand w s) := by
  unfold refuseReserved
  cases hf : s.fault with
  | some f => exact .inl ⟨by simp, rfl⟩
  | none => exact .inr ⟨rfl, rfl⟩

/-- The pin writes of SelectRow touch the pins alone (40_row_column_driver.md R121). -/
theorem selectRow_eq (r : Nat) (s : State) :
    selectRow r s = { s with rowDir := s.rowDir.set r true, rowOut := s.rowOut.set r false } := rfl

end Sys2Proof.Machine
end

