-- ==== Sys2Proof/Laws/Debounce.lean ====
section
/-! SUPPORT. What the policy hooks of SCAN can do, and the store and counter after the policy stages of a whole scan. -/

namespace Sys2Proof.Machine

/-- The part of the state that the policy hooks read: they cannot tell two states with the same part apart. -/
def sameStore (s t : State) : Prop := t.cfg = s.cfg ∧ t.sel = s.sel ∧ t.mem = s.mem ∧ t.cnt = s.cnt

/-- PolicyStart writes SEL alone, and only under POLICY A with CNT = 0 (42_debounce_swap_buffer.md R160;
43_debounce_integrator.md R180). -/
theorem policyStart_eq (s : State) :
    policyStart s = { s with sel := if s.cfg.policy = .a ∧ s.cnt = 0 then s.sel.other else s.sel } := by
  cases h : s.cfg.policy
  · by_cases hc : s.cnt = 0
    · simp only [policyStart, h, writeSel_eq, readSel_a h, hc, and_self, if_true]
    · simp only [policyStart, h, hc, and_false, if_false]
  · simp only [policyStart, h, reduceCtorEq, false_and, if_false]

@[simp] theorem policyStart_cfg (s : State) : (policyStart s).cfg = s.cfg := by rw [policyStart_eq]
@[simp] theorem policyStart_mem (s : State) : (policyStart s).mem = s.mem := by rw [policyStart_eq]
@[simp] theorem policyStart_cnt (s : State) : (policyStart s).cnt = s.cnt := by rw [policyStart_eq]
@[simp] theorem policyStart_rowDir (s : State) : (policyStart s).rowDir = s.rowDir := by rw [policyStart_eq]
@[simp] theorem policyStart_rowOut (s : State) : (policyStart s).rowOut = s.rowOut := by rw [policyStart_eq]
@[simp] theorem policyStart_phase (s : State) : (policyStart s).phase = s.phase := by rw [policyStart_eq]
@[simp] theorem policyStart_ridx (s : State) : (policyStart s).ridx = s.ridx := by rw [policyStart_eq]
@[simp] theorem policyStart_busy (s : State) : (policyStart s).busy = s.busy := by rw [policyStart_eq]
@[simp] theorem policyStart_inited (s : State) : (policyStart s).inited = s.inited := by rw [policyStart_eq]
@[simp] theorem policyStart_fault (s : State) : (policyStart s).fault = s.fault := by rw [policyStart_eq]
@[simp] theorem policyStart_inputs (s : State) : (policyStart s).inputs = s.inputs := by rw [policyStart_eq]
@[simp] theorem policyStart_samples (s : State) : (policyStart s).samples = s.samples := by rw [policyStart_eq]
@[simp] theorem policyStart_draws (s : State) : (policyStart s).draws = s.draws := by rw [policyStart_eq]
@[simp] theorem policyStart_rsp (s : State) : (policyStart s).rsp = s.rsp := by rw [policyStart_eq]
@[simp] theorem policyStart_sink (s : State) : (policyStart s).sink = s.sink := by rw [policyStart_eq]

/-- PolicyStage writes one word of the write target and restarts the counter, or changes nothing
(41_scan_sequencer.md R142). -/
theorem policyStage_cases (r : Nat) (w : RowWord) (s : State) :
    (s.mem.read (writeTarget s) r = w ∧ policyStage r w s = s) ∨
      (s.mem.read (writeTarget s) r ≠ w ∧
        policyStage r w s = { s with mem := s.mem.write (writeTarget s) r w, cnt := s.cfg.debounce }) := by
  unfold policyStage
  split
  · exact .inl ⟨‹_›, rfl⟩
  · exact .inr ⟨‹_›, rfl⟩

/-- PolicyStage touches the store and the counter alone. -/
theorem policyStage_frame (r : Nat) (w : RowWord) (s : State) :
    policyStage r w s = { s with mem := (policyStage r w s).mem, cnt := (policyStage r w s).cnt } := by
  rcases policyStage_cases r w s with ⟨_, h⟩ | ⟨_, h⟩ <;> rw [h]

@[simp] theorem policyStage_cfg (r : Nat) (w : RowWord) (s : State) : (policyStage r w s).cfg = s.cfg := by rw [policyStage_frame]
@[simp] theorem policyStage_sel (r : Nat) (w : RowWord) (s : State) : (policyStage r w s).sel = s.sel := by rw [policyStage_frame]
@[simp] theorem policyStage_rowDir (r : Nat) (w : RowWord) (s : State) : (policyStage r w s).rowDir = s.rowDir := by rw [policyStage_frame]
@[simp] theorem policyStage_rowOut (r : Nat) (w : RowWord) (s : State) : (policyStage r w s).rowOut = s.rowOut := by rw [policyStage_frame]
@[simp] theorem policyStage_phase (r : Nat) (w : RowWord) (s : State) : (policyStage r w s).phase = s.phase := by rw [policyStage_frame]
@[simp] theorem policyStage_ridx (r : Nat) (w : RowWord) (s : State) : (policyStage r w s).ridx = s.ridx := by rw [policyStage_frame]
@[simp] theorem policyStage_busy (r : Nat) (w : RowWord) (s : State) : (policyStage r w s).busy = s.busy := by rw [policyStage_frame]
@[simp] theorem policyStage_inited (r : Nat) (w : RowWord) (s : State) : (policyStage r w s).inited = s.inited := by rw [policyStage_frame]
@[simp] theorem policyStage_fault (r : Nat) (w : RowWord) (s : State) : (policyStage r w s).fault = s.fault := by rw [policyStage_frame]
@[simp] theorem policyStage_inputs (r : Nat) (w : RowWord) (s : State) : (policyStage r w s).inputs = s.inputs := by rw [policyStage_frame]
@[simp] theorem policyStage_samples (r : Nat) (w : RowWord) (s : State) : (policyStage r w s).samples = s.samples := by rw [policyStage_frame]
@[simp] theorem policyStage_draws (r : Nat) (w : RowWord) (s : State) : (policyStage r w s).draws = s.draws := by rw [policyStage_frame]
@[simp] theorem policyStage_rsp (r : Nat) (w : RowWord) (s : State) : (policyStage r w s).rsp = s.rsp := by rw [policyStage_frame]
@[simp] theorem policyStage_sink (r : Nat) (w : RowWord) (s : State) : (policyStage r w s).sink = s.sink := by rw [policyStage_frame]

/-- PolicyStage sees the store, the counter, SEL and the configuration alone. -/
theorem policyStage_congr (r : Nat) (w : RowWord) {s t : State} (h : sameStore s t) :
    (policyStage r w t).mem = (policyStage r w s).mem ∧ (policyStage r w t).cnt = (policyStage r w s).cnt := by
  obtain ⟨hc, hs, hm, hn⟩ := h
  obtain ⟨_, hw, _⟩ := roles_congr hc hs
  unfold policyStage
  rw [hw, hm]
  split
  · exact ⟨hm, hn⟩
  · exact ⟨rfl, by rw [hc]⟩

/-- The count-down writes CNT alone; natural-number subtraction, so 0 stays 0. -/
theorem countDown_eq (s : State) : countDown s = { s with cnt := if s.cnt = 0 then 0 else s.cnt - 1 } := by
  unfold countDown
  split
  · rename_i h
    ext <;> simp [h]
  · rfl

theorem countDown_cnt (s : State) : (countDown s).cnt.toNat = s.cnt.toNat - 1 := by
  rw [countDown_eq]
  by_cases h : s.cnt = 0
  · simp [h]
  · have : s.cnt.toNat ≠ 0 := fun e => h (BitVec.eq_of_toNat_eq (by simpa using e))
    simp only [h, if_false]
    bv_omega

/-- PolicyEnd under POLICY A is the count-down (42_debounce_swap_buffer.md R162). -/
theorem policyEnd_a {s : State} (h : s.cfg.policy = .a) : policyEnd s = countDown s := by simp [policyEnd, h]

/-- PolicyEnd under POLICY B is the count-down and, at zero, the copy of the whole shadow
(43_debounce_integrator.md R182). -/
theorem policyEnd_b {s : State} (h : s.cfg.policy = .b) :
    policyEnd s =
      { s with
        cnt := (countDown s).cnt
        mem := if (countDown s).cnt = 0 then s.mem.setBank .zero (s.mem.bank .one) else s.mem } := by
  simp only [policyEnd, h]
  split
  · rw [countDown_eq]; rfl
  · rw [countDown_eq]

/-- PolicyEnd touches the store and the counter alone. -/
theorem policyEnd_frame (s : State) :
    policyEnd s = { s with mem := (policyEnd s).mem, cnt := (policyEnd s).cnt } := by
  cases h : s.cfg.policy
  · rw [policyEnd_a h, countDown_eq]
  · rw [policyEnd_b h]

@[simp] theorem policyEnd_cfg (s : State) : (policyEnd s).cfg = s.cfg := by rw [policyEnd_frame]
@[simp] theorem policyEnd_sel (s : State) : (policyEnd s).sel = s.sel := by rw [policyEnd_frame]
@[simp] theorem policyEnd_rowDir (s : State) : (policyEnd s).rowDir = s.rowDir := by rw [policyEnd_frame]
@[simp] theorem policyEnd_rowOut (s : State) : (policyEnd s).rowOut = s.rowOut := by rw [policyEnd_frame]
@[simp] theorem policyEnd_phase (s : State) : (policyEnd s).phase = s.phase := by rw [policyEnd_frame]
@[simp] theorem policyEnd_ridx (s : State) : (policyEnd s).ridx = s.ridx := by rw [policyEnd_frame]
@[simp] theorem policyEnd_busy (s : State) : (policyEnd s).busy = s.busy := by rw [policyEnd_frame]
@[simp] theorem policyEnd_inited (s : State) : (policyEnd s).inited = s.inited := by rw [policyEnd_frame]
@[simp] theorem policyEnd_fault (s : State) : (policyEnd s).fault = s.fault := by rw [policyEnd_frame]
@[simp] theorem policyEnd_inputs (s : State) : (policyEnd s).inputs = s.inputs := by rw [policyEnd_frame]
@[simp] theorem policyEnd_samples (s : State) : (policyEnd s).samples = s.samples := by rw [policyEnd_frame]
@[simp] theorem policyEnd_draws (s : State) : (policyEnd s).draws = s.draws := by rw [policyEnd_frame]
@[simp] theorem policyEnd_rsp (s : State) : (policyEnd s).rsp = s.rsp := by rw [policyEnd_frame]
@[simp] theorem policyEnd_sink (s : State) : (policyEnd s).sink = s.sink := by rw [policyEnd_frame]

/-- The counter after PolicyEnd, under both policies (43_debounce_integrator.md R187). -/
theorem policyEnd_cnt (s : State) : (policyEnd s).cnt.toNat = s.cnt.toNat - 1 := by
  cases h : s.cfg.policy
  · rw [policyEnd_a h, countDown_cnt]
  · rw [policyEnd_b h, ← countDown_cnt]

/-- PolicyEnd sees the store, the counter, SEL and the configuration alone. -/
theorem policyEnd_congr {s t : State} (h : sameStore s t) :
    (policyEnd t).mem = (policyEnd s).mem ∧ (policyEnd t).cnt = (policyEnd s).cnt := by
  obtain ⟨hc, _, hm, hn⟩ := h
  have hd : (countDown t).cnt = (countDown s).cnt := by simp [countDown_eq, hn]
  cases hp : s.cfg.policy
  · rw [policyEnd_a hp, policyEnd_a (hc ▸ hp), hd, countDown_eq, countDown_eq]
    exact ⟨hm, rfl⟩
  · rw [policyEnd_b hp, policyEnd_b (hc ▸ hp), hd]
    exact ⟨by simp [hm], rfl⟩

/-- The policy stages of the first n rows of a scan. -/
def stagePrefix (words : List RowWord) (n : Nat) (s : State) : State :=
  (List.range n).foldl (fun s r => policyStage r (words.getD r 0) s) s

theorem stagePrefix_succ (words : List RowWord) (n : Nat) (s : State) :
    stagePrefix words (n + 1) s = policyStage n (words.getD n 0) (stagePrefix words n s) := by
  simp [stagePrefix, List.range_succ]

theorem stageRows_eq_stagePrefix (words : List RowWord) (s : State) :
    stageRows words s = stagePrefix words words.length s := rfl

/-- The policy stages touch the store and the counter alone. -/
theorem stagePrefix_frame (words : List RowWord) (n : Nat) (s : State) :
    stagePrefix words n s = { s with mem := (stagePrefix words n s).mem, cnt := (stagePrefix words n s).cnt } := by
  induction n with
  | zero => rfl
  | succ n ih =>
    rw [stagePrefix_succ]
    generalize stagePrefix words n s = u at *
    rw [policyStage_frame]
    rw [ih]

@[simp] theorem stagePrefix_cfg (words : List RowWord) (n : Nat) (s : State) : (stagePrefix words n s).cfg = s.cfg := by rw [stagePrefix_frame]
@[simp] theorem stagePrefix_sel (words : List RowWord) (n : Nat) (s : State) : (stagePrefix words n s).sel = s.sel := by rw [stagePrefix_frame]
@[simp] theorem stagePrefix_rowDir (words : List RowWord) (n : Nat) (s : State) : (stagePrefix words n s).rowDir = s.rowDir := by rw [stagePrefix_frame]
@[simp] theorem stagePrefix_rowOut (words : List RowWord) (n : Nat) (s : State) : (stagePrefix words n s).rowOut = s.rowOut := by rw [stagePrefix_frame]
@[simp] theorem stagePrefix_phase (words : List RowWord) (n : Nat) (s : State) : (stagePrefix words n s).phase = s.phase := by rw [stagePrefix_frame]
@[simp] theorem stagePrefix_ridx (words : List RowWord) (n : Nat) (s : State) : (stagePrefix words n s).ridx = s.ridx := by rw [stagePrefix_frame]
@[simp] theorem stagePrefix_busy (words : List RowWord) (n : Nat) (s : State) : (stagePrefix words n s).busy = s.busy := by rw [stagePrefix_frame]
@[simp] theorem stagePrefix_inited (words : List RowWord) (n : Nat) (s : State) : (stagePrefix words n s).inited = s.inited := by rw [stagePrefix_frame]
@[simp] theorem stagePrefix_fault (words : List RowWord) (n : Nat) (s : State) : (stagePrefix words n s).fault = s.fault := by rw [stagePrefix_frame]
@[simp] theorem stagePrefix_inputs (words : List RowWord) (n : Nat) (s : State) : (stagePrefix words n s).inputs = s.inputs := by rw [stagePrefix_frame]
@[simp] theorem stagePrefix_samples (words : List RowWord) (n : Nat) (s : State) : (stagePrefix words n s).samples = s.samples := by rw [stagePrefix_frame]
@[simp] theorem stagePrefix_draws (words : List RowWord) (n : Nat) (s : State) : (stagePrefix words n s).draws = s.draws := by rw [stagePrefix_frame]
@[simp] theorem stagePrefix_rsp (words : List RowWord) (n : Nat) (s : State) : (stagePrefix words n s).rsp = s.rsp := by rw [stagePrefix_frame]
@[simp] theorem stagePrefix_sink (words : List RowWord) (n : Nat) (s : State) : (stagePrefix words n s).sink = s.sink := by rw [stagePrefix_frame]

@[simp] theorem stageRows_cfg (words : List RowWord) (s : State) : (stageRows words s).cfg = s.cfg := by rw [stageRows_eq_stagePrefix, stagePrefix_frame]
@[simp] theorem stageRows_sel (words : List RowWord) (s : State) : (stageRows words s).sel = s.sel := by rw [stageRows_eq_stagePrefix, stagePrefix_frame]
@[simp] theorem stageRows_rowDir (words : List RowWord) (s : State) : (stageRows words s).rowDir = s.rowDir := by rw [stageRows_eq_stagePrefix, stagePrefix_frame]
@[simp] theorem stageRows_rowOut (words : List RowWord) (s : State) : (stageRows words s).rowOut = s.rowOut := by rw [stageRows_eq_stagePrefix, stagePrefix_frame]
@[simp] theorem stageRows_phase (words : List RowWord) (s : State) : (stageRows words s).phase = s.phase := by rw [stageRows_eq_stagePrefix, stagePrefix_frame]
@[simp] theorem stageRows_ridx (words : List RowWord) (s : State) : (stageRows words s).ridx = s.ridx := by rw [stageRows_eq_stagePrefix, stagePrefix_frame]
@[simp] theorem stageRows_busy (words : List RowWord) (s : State) : (stageRows words s).busy = s.busy := by rw [stageRows_eq_stagePrefix, stagePrefix_frame]
@[simp] theorem stageRows_inited (words : List RowWord) (s : State) : (stageRows words s).inited = s.inited := by rw [stageRows_eq_stagePrefix, stagePrefix_frame]
@[simp] theorem stageRows_fault (words : List RowWord) (s : State) : (stageRows words s).fault = s.fault := by rw [stageRows_eq_stagePrefix, stagePrefix_frame]
@[simp] theorem stageRows_inputs (words : List RowWord) (s : State) : (stageRows words s).inputs = s.inputs := by rw [stageRows_eq_stagePrefix, stagePrefix_frame]
@[simp] theorem stageRows_samples (words : List RowWord) (s : State) : (stageRows words s).samples = s.samples := by rw [stageRows_eq_stagePrefix, stagePrefix_frame]
@[simp] theorem stageRows_draws (words : List RowWord) (s : State) : (stageRows words s).draws = s.draws := by rw [stageRows_eq_stagePrefix, stagePrefix_frame]
@[simp] theorem stageRows_rsp (words : List RowWord) (s : State) : (stageRows words s).rsp = s.rsp := by rw [stageRows_eq_stagePrefix, stagePrefix_frame]
@[simp] theorem stageRows_sink (words : List RowWord) (s : State) : (stageRows words s).sink = s.sink := by rw [stageRows_eq_stagePrefix, stagePrefix_frame]

/-- The store and the counter after the stages of the first n rows: the write target holds the fresh words in those
rows, the other bank is untouched, and any difference has restarted the counter (41_scan_sequencer.md R142). -/
theorem stagePrefix_spec (words : List RowWord) (s : State) (hl : (s.mem.bank (writeTarget s)).length = words.length) :
    ∀ n, n ≤ words.length →
      (stagePrefix words n s).mem =
          s.mem.setBank (writeTarget s) (words.take n ++ (s.mem.bank (writeTarget s)).drop n) ∧
        (stagePrefix words n s).cnt =
          if words.take n = (s.mem.bank (writeTarget s)).take n then s.cnt else s.cfg.debounce := by
  intro n
  induction n with
  | zero => intro _; simp [stagePrefix]
  | succ n ih =>
    intro hn
    obtain ⟨hm, hc⟩ := ih (by omega)
    rw [stagePrefix_succ]
    have hfr := stagePrefix_frame words n s
    generalize stagePrefix words n s = u at *
    have hcfg : u.cfg = s.cfg := by rw [hfr]
    have hsel : u.sel = s.sel := by rw [hfr]
    obtain ⟨_, hw, _⟩ := roles_congr hcfg hsel
    generalize hB : s.mem.bank (writeTarget s) = B at *
    have hlt : n < words.length := by omega
    have hltB : n < B.length := by omega
    have hread : u.mem.read (writeTarget u) n = B[n] := by
      rw [hw, hm]
      simp [Memory.read, hltB, hlt.le]
    have hget : words.getD n 0 = words[n] := by simp [List.getD, hlt]
    have htw : words.take (n + 1) = words.take n ++ [words[n]] := by rw [List.take_succ_eq_append_getElem hlt]
    have htB : B.take (n + 1) = B.take n ++ [B[n]] := by rw [List.take_succ_eq_append_getElem hltB]
    have hdB : B.drop n = B[n] :: B.drop (n + 1) := List.drop_eq_getElem_cons hltB
    have hlen : (words.take n).length = (B.take n).length := by simp; omega
    rw [hget]
    rcases policyStage_cases n words[n] u with ⟨e, h⟩ | ⟨e, h⟩
    · rw [h]
      rw [hread] at e
      refine ⟨?_, ?_⟩
      · rw [hm, htw, hdB, ← e]; simp
      · rw [hc, htw, htB, ← e]
        simp only [List.append_left_inj]
    · rw [h]
      rw [hread] at e
      refine ⟨?_, ?_⟩
      · simp only [Memory.write, hw]
        rw [hm]
        simp only [Memory.bank_setBank, Memory.setBank_setBank]
        congr 1
        have hz : n - (words.take n).length = 0 := by simp; omega
        rw [htw, hdB, List.set_append_right _ _ (by simp), hz, List.set_cons_zero, List.append_assoc,
          List.singleton_append]
      · rw [if_neg]
        · rw [hcfg]
        · rw [htw, htB]
          intro hcon
          have := List.append_inj_right hcon hlen
          simp at this
          exact e this.symm

/-- The store and the counter after the policy stages of a whole scan. -/
theorem stageRows_spec (words : List RowWord) (s : State) (hl : (s.mem.bank (writeTarget s)).length = words.length) :
    stageRows words s =
      { s with
        mem := s.mem.setBank (writeTarget s) words
        cnt := if words = s.mem.bank (writeTarget s) then s.cnt else s.cfg.debounce } := by
  obtain ⟨hm, hc⟩ := stagePrefix_spec words s hl words.length (Nat.le_refl _)
  rw [stageRows_eq_stagePrefix, stagePrefix_frame, hm, hc]
  rw [List.take_length, ← hl, List.take_length, List.drop_length, List.append_nil]

end Sys2Proof.Machine
end

