-- ==== Sys2Proof/Laws/PerInstr.lean ====
section
/-! SUPPORT. The family EncodesItsRow: each command's word selects the row of the opcode map with its mnemonic. -/

namespace Sys2Proof.Laws.EncodesItsRow

/-- The word of a command matches, under the mask, the pattern of the opcode map's row of its mnemonic
(30_encoding.md R92). -/
def Statement (i : Instr) : Prop :=
  ∃ e ∈ opcodeMap, e.mnemonic = i.mnemonic ∧ encode i &&& e.mask = e.pattern

theorem init : Statement .init := by unfold Statement; decide

theorem scan : Statement .scan := by unfold Statement; decide

theorem isModified : Statement .isModified := by unfold Statement; decide

theorem isOn (row : RowIndex) (col : ColIndex) : Statement (.isOn row col) := by
  refine ⟨{ mnemonic := "IS_ON", pattern := 0x4000, mask := 0xF000, needsGhost := false }, by decide, rfl, ?_⟩
  apply BitVec.eq_of_getLsbD_eq
  intro k hk
  interval_cases k <;> simp [encode, assemble]

theorem getRow (row : RowIndex) : Statement (.getRow row) := by
  refine ⟨{ mnemonic := "GET_ROW", pattern := 0x5000, mask := 0xF00F, needsGhost := false }, by decide, rfl, ?_⟩
  apply BitVec.eq_of_getLsbD_eq
  intro k hk
  interval_cases k <;> simp [encode, assemble]

theorem keyCount : Statement .keyCount := by unfold Statement; decide

theorem hasGhost : Statement .hasGhost := by unfold Statement; decide

theorem printDebug : Statement .printDebug := by unfold Statement; decide

end Sys2Proof.Laws.EncodesItsRow
end

