-- ==== Sys2Proof/Laws/Sequencer.lean ====
section
/-! SUPPORT. What the row steps of a scan can do, as one lemma for the first n rows. -/

namespace Sys2Proof.Machine

@[simp] theorem sampleAt_setPhase (p : Phase) (s : State) (n : Nat) : sampleAt (setPhase p s) n = sampleAt s n := rfl

@[simp] theorem sampleAt_policyStart (s : State) (n : Nat) : sampleAt (policyStart s) n = sampleAt s n := by
  rw [policyStart_eq]; rfl

@[simp] theorem sampleAt_acceptScan (s : State) (n : Nat) : sampleAt (acceptScan s) n = sampleAt s n := rfl

/-- The words of a scan depend on the configuration and the samples to come alone. -/
theorem scanWords_congr {s t : State} (hc : t.cfg = s.cfg) (hs : t.samples = s.samples) (hd : t.draws = s.draws) :
    scanWords t = scanWords s := by
  simp [scanWords, hc, sampleAt_congr hs hd]

@[simp] theorem scanWords_length (s : State) : (scanWords s).length = s.cfg.rows := by simp [scanWords]

theorem scanWords_getD (s : State) {r : Nat} (h : r < s.cfg.rows) :
    (scanWords s).getD r 0 = invertSample s.cfg (sampleAt s r) := by
  simp [scanWords, List.getD, h]

/-- The next scan reads the first of the upcoming tables. -/
theorem upcomingWords_zero (s : State) : upcomingWords s 0 = scanWords s := by
  simp [upcomingWords, scanWords]

/-! One row step, field by field (41_scan_sequencer.md R142): the row's pins, PHASE and RIDX, one sample taken, and the
policy stage. -/

@[simp] theorem rowStep_cfg (s : State) (r : Nat) : (rowStep s r).cfg = s.cfg := by simp [rowStep, readCols, settle]
@[simp] theorem rowStep_sel (s : State) (r : Nat) : (rowStep s r).sel = s.sel := by simp [rowStep, readCols, settle]
@[simp] theorem rowStep_rowDir (s : State) (r : Nat) : (rowStep s r).rowDir = (List.replicate s.cfg.rows false).set r true := by simp [rowStep, readCols, settle]
@[simp] theorem rowStep_rowOut (s : State) (r : Nat) : (rowStep s r).rowOut = (List.replicate s.cfg.rows false).set r false := by simp [rowStep, readCols, settle]
@[simp] theorem rowStep_phase (s : State) (r : Nat) : (rowStep s r).phase = .sample := by simp [rowStep, readCols, settle]
@[simp] theorem rowStep_ridx (s : State) (r : Nat) : (rowStep s r).ridx = BitVec.ofNat 8 r := by simp [rowStep, readCols, settle]
@[simp] theorem rowStep_busy (s : State) (r : Nat) : (rowStep s r).busy = s.busy := by simp [rowStep, readCols, settle]
@[simp] theorem rowStep_inited (s : State) (r : Nat) : (rowStep s r).inited = s.inited := by simp [rowStep, readCols, settle]
@[simp] theorem rowStep_fault (s : State) (r : Nat) : (rowStep s r).fault = s.fault := by simp [rowStep, readCols, settle]
@[simp] theorem rowStep_inputs (s : State) (r : Nat) : (rowStep s r).inputs = s.inputs := by simp [rowStep, readCols, settle]
@[simp] theorem rowStep_samples (s : State) (r : Nat) : (rowStep s r).samples = s.samples.drop 1 := by simp [rowStep, readCols, settle]
@[simp] theorem rowStep_draws (s : State) (r : Nat) : (rowStep s r).draws = s.draws + (1 - s.samples.length) := by simp [rowStep, readCols, settle]
@[simp] theorem rowStep_rsp (s : State) (r : Nat) : (rowStep s r).rsp = s.rsp := by simp [rowStep, readCols, settle]
@[simp] theorem rowStep_sink (s : State) (r : Nat) : (rowStep s r).sink = s.sink := by simp [rowStep, readCols, settle]

theorem rowStep_store (s : State) (r : Nat) :
    (rowStep s r).mem = (policyStage r (invertSample s.cfg (sampleAt s 0)) s).mem ∧
      (rowStep s r).cnt = (policyStage r (invertSample s.cfg (sampleAt s 0)) s).cnt := by
  obtain ⟨t, ht, hc, hs, hm, hn, hx, hd⟩ : ∃ t, rowStep s r =
      policyStage r (invertSample t.cfg (sampleAt t 0)) (dropSamples 1 t) ∧ t.cfg = s.cfg ∧ t.sel = s.sel ∧
        t.mem = s.mem ∧ t.cnt = s.cnt ∧ t.samples = s.samples ∧ t.draws = s.draws :=
    ⟨_, rfl, by simp [settle], by simp [settle], by simp [settle], by simp [settle], by simp [settle], by simp [settle]⟩
  rw [ht, hc, sampleAt_congr hx hd]
  exact policyStage_congr r _ ⟨by simp [hc], by simp [hs], by simp [hm], by simp [hn]⟩

/-- The first n + 1 row steps of a scan: the policy stages of the words read, as many samples taken, the pins, PHASE and
RIDX of the last row, and the rest as before (41_scan_sequencer.md R142, R144). -/
structure AfterRows (s : State) (n : Nat) (t : State) : Prop where
  mem : t.mem = (stagePrefix (scanWords s) (n + 1) s).mem
  cnt : t.cnt = (stagePrefix (scanWords s) (n + 1) s).cnt
  rowDir : t.rowDir = (List.replicate s.cfg.rows false).set n true
  rowOut : t.rowOut = (List.replicate s.cfg.rows false).set n false
  phase : t.phase = .sample
  ridx : t.ridx = BitVec.ofNat 8 n
  samples : t.samples = s.samples.drop (n + 1)
  draws : t.draws = s.draws + (n + 1 - s.samples.length)
  cfg : t.cfg = s.cfg
  sel : t.sel = s.sel
  busy : t.busy = s.busy
  inited : t.inited = s.inited
  fault : t.fault = s.fault
  inputs : t.inputs = s.inputs
  rsp : t.rsp = s.rsp
  sink : t.sink = s.sink

theorem rowSteps_spec (s : State) :
    ∀ n, n < s.cfg.rows → AfterRows s n ((List.range (n + 1)).foldl rowStep s) := by
  intro n
  induction n with
  | zero =>
    intro h
    obtain ⟨hm, hc⟩ := rowStep_store s 0
    constructor
    case mem => rw [stagePrefix_succ, scanWords_getD s h]; exact hm
    case cnt => rw [stagePrefix_succ, scanWords_getD s h]; exact hc
    all_goals simp
  | succ n ih =>
    intro h
    have u := ih (by omega)
    rw [List.range_succ, List.foldl_append, List.foldl_cons, List.foldl_nil]
    generalize List.foldl rowStep s (List.range (n + 1)) = t at u
    obtain ⟨hm, hc⟩ := rowStep_store t (n + 1)
    have hs : sampleAt t 0 = sampleAt s (n + 1) := by
      rw [sampleAt_congr (s := dropSamples (n + 1) s) u.samples u.draws, sampleAt_dropSamples]
    rw [u.cfg, hs] at hm hc
    obtain ⟨km, kc⟩ := policyStage_congr (n + 1) (invertSample s.cfg (sampleAt s (n + 1)))
      (s := stagePrefix (scanWords s) (n + 1) s) (t := t) ⟨by simp [u.cfg], by simp [u.sel], u.mem, u.cnt⟩
    constructor
    case mem => rw [hm, km, stagePrefix_succ _ (n + 1), scanWords_getD s h]
    case cnt => rw [hc, kc, stagePrefix_succ _ (n + 1), scanWords_getD s h]
    case samples => simp [u.samples]
    case draws => simp [u.samples, u.draws]; omega
    all_goals simp [u.cfg, u.sel, u.busy, u.inited, u.fault, u.inputs, u.rsp, u.sink]

/-- All the row steps of a scan, on a board with at least one row. -/
theorem allRowSteps_spec (s : State) (h : 1 ≤ s.cfg.rows) :
    AfterRows s (s.cfg.rows - 1) ((List.range s.cfg.rows).foldl rowStep s) := by
  have := rowSteps_spec s (s.cfg.rows - 1) (by omega)
  rwa [Nat.sub_add_cancel h] at this

end Sys2Proof.Machine
end

