-- ==== Sys2Proof/Tests/Slice0.lean ====
section
/-! SUPPORT. The model's own tests, with the results the spec writes out, and a witness for the hypotheses of each statement of Certificates/Slice0/Obligations.lean. -/

namespace Sys2Proof.Tests

open Sys2Proof.Machine

/-! ## Helpers -/

/-- A WORD board with the detector. -/
def board (rows cols : Nat) (debounce : BitVec 8) (policy : Policy) : Config :=
  { rows := rows, cols := cols, debounce := debounce, policy := policy, readMode := .word, ghostEn := true }

/-- An initialised, idle block with the given SEL, CNT and banks. -/
def settled (c : Config) (sel : Bank) (cnt : BitVec 8) (bank0 bank1 : List RowWord) : State :=
  { State.resetWith c with mem := { bank0 := bank0, bank1 := bank1 }, sel := sel, cnt := cnt, inited := true }

/-- The block with the given samples to come. -/
def reading (samples : List (BitVec 16)) (s : State) : State := { s with samples := samples }

/-- The block with the given inputs to come. -/
def given (inputs : List Input) (s : State) : State := { s with inputs := inputs }

/-- A block in the middle of a scan. -/
def running (phase : Phase) (ridx : BitVec 8) (s : State) : State := { s with phase := phase, ridx := ridx, busy := true }

/-- The block with a latched RowRange of IS_ON 2, 0. -/
def faulted (s : State) : State := { s with fault := some { kind := .rowRange, word := 0x4020 } }

/-- The state of an outcome, for the tests to look at. -/
def after (o : Host.Outcome State Fault Refusal) : Option State :=
  match o with
  | .next s => some s
  | .fault _ => none
  | .refused _ => none

/-- The response of an outcome. -/
def answer (o : Host.Outcome State Fault Refusal) : Option Response := (after o).bind fun s => s.rsp

/-- SEL, CNT and the banks of an outcome. -/
def store (o : Host.Outcome State Fault Refusal) : Option (Bank × BitVec 8 × List RowWord × List RowWord) :=
  (after o).map fun s => (s.sel, s.cnt, s.mem.bank0, s.mem.bank1)

/-- The code of the fault that a presented word leaves on FAULT (0 = None). -/
def codeAfter (s : State) (w : CommandWord) : Option Nat :=
  (after (step (given [.command w] s))).map fun t => match t.fault with
    | some f => faultCode f.kind
    | none => 0

def boardA : Config := board 2 4 5 .a
def boardB : Config := board 2 4 5 .b

/-! ## WellFormed: what the build refuses (00_scope.md R5, R6, R7, R14; 70_reset_and_hazards.md R282) -/

theorem test_build_refuses_no_rows : Config.build 0 8 5 .a .word true = none := by decide
theorem test_build_refuses_256_rows : Config.build 256 8 5 .a .word true = none := by decide
theorem test_build_refuses_no_columns : Config.build 6 0 5 .a .word true = none := by decide
theorem test_build_refuses_17_columns : Config.build 6 17 5 .a .word true = none := by decide
theorem test_build_refuses_9_columns_byte8 : Config.build 6 9 5 .a .byte8 true = none := by decide
theorem test_build_refuses_debounce_256 : Config.build 6 8 256 .a .word true = none := by decide
theorem test_build_takes_the_bounds :
    (Config.build 255 16 255 .b .word false).isSome = true ∧ (Config.build 1 8 0 .a .byte8 true).isSome = true := by
  decide
theorem test_ghost_needs_the_detector : Instr.hasGhost.wellFormed false = false := by decide

/-! ## Decode: the words of 30_encoding.md R92, R93, R96 and 95_test_vectors.md 2.7 -/

theorem test_decode_init : decode true 0b0001000000000000 = .command .init := by decide
theorem test_decode_scan : decode true 0b0010000000000000 = .command .scan := by decide
theorem test_decode_isModified : decode true 0b0011000000000000 = .command .isModified := by decide
theorem test_decode_isOn : decode true 0b0100111111101111 = .command (.isOn 254 15) := by decide
theorem test_decode_getRow : decode true 0b0101000001010000 = .command (.getRow 5) := by decide
theorem test_decode_keyCount : decode true 0b0110000000000000 = .command .keyCount := by decide
theorem test_decode_hasGhost : decode true 0b0111000000000000 = .command .hasGhost := by decide
theorem test_decode_printDebug : decode true 0b1000000000000000 = .command .printDebug := by decide

theorem test_encode_written_words :
    encode (.isOn 2 7) = 0x4027 ∧ encode (.isOn 254 15) = 0x4FEF ∧ encode (.getRow 5) = 0x5050 ∧
      encode .keyCount = 0x6000 := by decide

/-- The reserved words of 95_test_vectors.md 2.7. -/
theorem test_decode_reserved_words :
    [0x0000, 0x1001, 0x1010, 0x2001, 0x2010, 0x3FFF, 0x5051, 0x5061, 0x6100, 0x7001, 0x8008, 0x9000, 0xA000, 0xF000,
      0xFFFF].all (fun w => decodedCommand true w == none) = true := by decide

theorem test_decode_table_word : decodeTableWord 16 0x4027 = some (.isOn 2 7) ∧ decodeTableWord 32 0x4027 = none := by
  decide

/-! ## Reset, INIT and the steps -/

/-- 10_state.md R39 and 70_reset_and_hazards.md R280; the canonical form of the store. -/
theorem test_reset :
    State.reset.phase = .idle ∧ State.reset.busy = false ∧ State.reset.inited = false ∧ State.reset.fault = none ∧
      State.reset.rowDir.count true = 0 ∧ State.reset.mem.wf State.reset.cfg.rows = true := by decide

/-- 95_test_vectors.md 2.2: (2, 4, 5, A). -/
theorem test_init_a :
    store (exec .init (State.resetWith boardA)) = some (.zero, 5, [0, 0], [0, 0]) ∧
      answer (exec .init (State.resetWith boardA)) = some (.data 0) := by decide

/-- 95_test_vectors.md 2.2: (1, 1, 255, B), and INIT repeated. -/
theorem test_init_b :
    store (exec .init (State.resetWith (board 1 1 255 .b))) = some (.zero, 255, [0], [0]) ∧
      codeAfter (settled boardA .one 3 [1, 2] [3, 4]) 0x1000 = some 3 := by decide

/-- 70_reset_and_hazards.md R280: a reset edge in the middle of a scan abandons it without a response. -/
theorem test_reset_in_a_scan :
    (after (step (given [.reset] (running .sample 1 (settled boardA .one 3 [1, 2] [3, 4]))))).map
      (fun s => (s.phase, s.busy, s.inited, s.rsp)) = some (.idle, false, false, none) := by decide

theorem test_withFetchWord_runs_the_word :
    step (State.reset.withFetchWord 16 0x1000) = exec .init { State.reset with inputs := [] } := by rfl

/-! ## Row and column driver (95_test_vectors.md 2.1) -/

theorem test_readCols_at_width :
    (readCols (reading [0xF6] (State.resetWith (board 3 8 5 .a)))).1 = 0x0009 ∧
      (readCols (reading [0x0] (State.resetWith (board 3 4 5 .a)))).1 = 0x000F ∧
      (readCols (reading [0x7FFE] (State.resetWith (board 3 16 5 .a)))).1 = 0x8001 ∧
      (readCols (reading [0x15] (State.resetWith (board 3 5 5 .a)))).1 = 0x000A := by decide

/-- BYTE8 reads eight bits whatever COLS is. -/
theorem test_readCols_byte8 :
    (readCols (reading [0x0D] (State.resetWith { board 3 4 5 .a with readMode := .byte8 }))).1 = 0x00F2 := by decide

theorem test_select_row :
    (selectRow 2 (deselectAll { State.resetWith (board 3 8 5 .a) with rowDir := [false, true, false] })).rowDir =
      [false, false, true] := by decide

/-- The SELECT of row 1 in the table of a scan's phases. -/
theorem test_phase_select :
    (after (step (running .select 1 (settled (board 3 8 5 .a) .zero 0 [0, 0, 0] [0, 0, 0])))).map
      (fun s => (s.phase, s.ridx, s.rowDir)) = some (.settle, 1, [false, true, false]) := by decide

/-- The last SAMPLE goes to FINAL_DESELECT. -/
theorem test_phase_last_sample :
    (after (step (reading [0xD] (running .sample 1 (settled boardB .zero 0 [0, 0] [0, 0]))))).map
      (fun s => (s.phase, s.ridx, s.cnt, s.mem.bank1)) = some (.finalDeselect, 1, 5, [0, 2]) := by decide

/-! ## SCAN (95_test_vectors.md 2.3, whole scans, and the traces of section 5) -/

theorem test_scan_a :
    store (exec .scan (reading [0xF, 0xF] (settled boardA .zero 0 [0, 0] [0, 0]))) = some (.one, 0, [0, 0], [0, 0]) ∧
      store (exec .scan (reading [0xD, 0xE] (settled boardA .zero 4 [2, 0] [0, 0]))) =
        some (.zero, 4, [2, 1], [0, 0]) ∧
      store (exec .scan (reading [0xD, 0xF] (settled boardA .zero 0 [2, 0] [0, 0]))) =
        some (.one, 4, [2, 0], [2, 0]) := by
  refine ⟨?_, ?_, ?_⟩ <;> decide

theorem test_scan_b :
    store (exec .scan (reading [0xD, 0xF] (settled boardB .zero 1 [0, 0] [2, 0]))) =
        some (.zero, 0, [2, 0], [2, 0]) ∧
      store (exec .scan (reading [0xF, 0xF] (settled boardB .zero 1 [0, 0] [2, 0]))) =
        some (.zero, 4, [0, 0], [0, 0]) ∧
      store (exec .scan (reading [0x0, 0x0] (settled boardB .zero 0 [2, 0] [2, 0]))) =
        some (.zero, 4, [2, 0], [15, 15]) := by
  refine ⟨?_, ?_, ?_⟩ <;> decide

/-- PolicyEnd under POLICY B with DEBOUNCE = 0 copies at the level CNT = 0. -/
theorem test_policyEnd_b_debounce_zero :
    (policyEnd (settled (board 2 4 0 .b) .zero 0 [0, 0] [2, 0])).mem.bank0 = [2, 0] := by decide

/-- 42_debounce_swap_buffer.md R164 and 43_debounce_integrator.md R186, scan 7. -/
theorem test_scan_settles :
    store (exec .scan (reading [0xD, 0xF] (settled boardA .one 1 [0, 0] [2, 0]))) = some (.one, 0, [0, 0], [2, 0]) ∧
      answer (exec .scan (reading [0xD, 0xF] (settled boardA .one 1 [0, 0] [2, 0]))) = some (.data 1) := by decide

/-! ## Accessors (95_test_vectors.md 2.4, 2.5) -/

theorem test_isModified_a :
    answer (exec .isModified (settled boardA .one 0 [2, 0] [0, 0])) = some (.data 1) ∧
      answer (exec .isModified (settled boardA .zero 0 [2, 0] [2, 0])) = some (.data 0) ∧
      answer (exec .isModified (settled boardA .zero 4 [2, 0] [0, 0])) = some (.data 0) ∧
      answer (exec .isModified (settled boardA .zero 0 [0, 1] [0, 0])) = some (.data 1) := by decide

theorem test_isModified_b :
    answer (exec .isModified (settled boardB .zero 0 [2, 0] [2, 0])) = some (.data 1) ∧
      answer (exec .isModified (settled boardB .zero 255 [2, 0] [0, 0])) = some (.data 0) := by decide

/-- The committed bank of 95_test_vectors.md 2.5, on a board of 3 rows and 8 columns. -/
def threeKeys : State := settled (board 3 8 5 .b) .zero 0 [0x0009, 0x0000, 0x0080] [0, 0, 0]

theorem test_isOn :
    answer (exec (.isOn 0 3) threeKeys) = some (.data 1) ∧ answer (exec (.isOn 0 1) threeKeys) = some (.data 0) ∧
      answer (exec (.isOn 2 7) threeKeys) = some (.data 1) ∧ answer (exec (.isOn 1 7) threeKeys) = some (.data 0) := by
  decide

theorem test_isOn_ranges :
    codeAfter threeKeys 0x4028 = some 5 ∧ codeAfter threeKeys 0x4030 = some 4 ∧ codeAfter threeKeys 0x4038 = some 4 := by
  decide

theorem test_getRow :
    answer (exec (.getRow 0) threeKeys) = some (.data 9) ∧ answer (exec (.getRow 2) threeKeys) = some (.data 0x80) ∧
      codeAfter threeKeys 0x5030 = some 4 := by decide

/-- Which bank is committed: BUF[SEL] under POLICY A. -/
theorem test_getRow_committed_bank :
    answer (exec (.getRow 0) (settled boardA .one 3 [1, 0] [2, 2])) = some (.data 2) ∧
      answer (exec (.getRow 0) (settled boardB .zero 3 [1, 0] [2, 2])) = some (.data 1) := by decide

theorem test_keyCount :
    answer (exec .keyCount threeKeys) = some (.data 3) ∧
      answer (exec .keyCount (settled (board 2 16 5 .b) .zero 0 [0xFFFF, 0xFFFF] [0, 0])) = some (.data 0x20) := by
  decide

/-! ## Ghost detector and debug dump (95_test_vectors.md 2.6) -/

theorem test_hasGhost :
    answer (exec .hasGhost (settled boardB .zero 0 [0x0003, 0x0007] [0, 0])) = some (.data 1) ∧
      answer (exec .hasGhost (settled boardB .zero 0 [0x0003, 0x0006] [0, 0])) = some (.data 0) ∧
      answer (exec .hasGhost (settled boardB .zero 0 [0x8000, 0x8000] [0, 0])) = some (.data 0) := by decide

theorem test_ghostInRow_is_not_symmetric :
    ghostInRow (settled boardB .zero 0 [0x0003, 0x0007] [0, 0]) 0 = true ∧
      ghostInRow (settled boardB .zero 0 [0x0003, 0x0007] [0, 0]) 1 = false := by decide

theorem test_printDebug :
    (after (exec .printDebug (settled (board 3 8 5 .b) .zero 0 [3, 3, 0] [0, 0, 0]))).map (fun s => s.sink) =
      some [⟨0, 3, true⟩, ⟨1, 3, true⟩, ⟨2, 0, false⟩] := by decide

/-! ## Faults and the order of the checks (95_test_vectors.md section 4, board (2, 4, 2, A)) -/

theorem test_faults_before_init :
    [0x2000, 0x3000, 0x4000, 0x4FFF, 0x0000, 0x1000].map (codeAfter (State.resetWith (board 2 4 2 .a))) =
      [some 2, some 2, some 2, some 2, some 1, some 0] := by decide

theorem test_faults_after_init :
    [0x1000, 0x4020, 0x4029, 0x4014, 0x5020, 0x5021].map
      (codeAfter (settled (board 2 4 2 .a) .zero 0 [0, 0] [0, 0])) =
      [some 3, some 4, some 4, some 5, some 4, some 1] := by decide

theorem test_fault_is_sticky :
    [0x2000, 0x0000, 0x1000].map (codeAfter (faulted (settled (board 2 4 2 .a) .zero 0 [0, 0] [0, 0]))) =
      [some 4, some 4, some 4] := by decide

theorem test_ghost_without_the_detector :
    codeAfter (State.resetWith { board 2 4 2 .a with ghostEn := false }) 0x7000 = some 1 := by decide

/-! ## Witnesses: for each statement with hypotheses, a state and operands that meet all of them -/

/-- A settled block that meets the invariant. -/
def quietA : State := settled boardA .zero 0 [2, 0] [0, 0]
def quietB : State := settled boardB .zero 0 [2, 0] [2, 0]

/-- The invariant as a computation. -/
def invCheck (s : State) : Bool :=
  s.cfg.wellFormed && s.mem.wf s.cfg.rows && s.rowDir.length == s.cfg.rows && decide (s.rowDir.count true ≤ 1) &&
    s.rowOut == List.replicate s.cfg.rows false &&
    (!pinsIdleIn s.phase || s.rowDir == List.replicate s.cfg.rows false) &&
    (!(s.phase == .settle || s.phase == .sample) ||
      s.rowDir == (List.replicate s.cfg.rows false).set s.ridx.toNat true) &&
    (!inRowLoop s.phase || decide (s.ridx.toNat < s.cfg.rows)) && (s.busy == (s.phase != .idle)) &&
    s.inited && s.fault.isNone && decide (s.cnt.toNat ≤ s.cfg.debounce.toNat) &&
    (s.mem.bank0 ++ s.mem.bank1).all (fun w => w >>> readWidth s.cfg == 0) &&
    (s.cfg.policy == .a || (s.sel == .zero && (s.cnt != 0 || s.mem.bank0 == s.mem.bank1)))

theorem inv_of_check {s : State} (h : invCheck s = true) : Inv s := by
  simp only [invCheck, Bool.and_eq_true, Bool.or_eq_true, beq_iff_eq, decide_eq_true_eq, Bool.not_eq_true',
    bne_iff_ne, List.all_eq_true, Option.isNone_iff_eq_none] at h
  obtain ⟨⟨⟨⟨⟨⟨⟨⟨⟨⟨⟨⟨⟨h1, h2⟩, h3⟩, h4⟩, h5⟩, h6⟩, h7⟩, h8⟩, h9⟩, h10⟩, h11⟩, h12⟩, h13⟩, h14⟩ := h
  refine ⟨h1, h2, h3, h4, h5, fun h => ?_, fun h => ?_, fun h => ?_, ?_, fun _ => ⟨h10, h11⟩, fun _ => h12,
    fun _ => h13, fun h => ?_, fun h _ _ hc => ?_⟩
  · simpa [h] using h6
  · rcases h with h | h <;> simpa [h] using h7
  · simpa [h] using h8
  · rw [h9]; simp
  · simp only [h, reduceCtorEq, false_or] at h14; exact h14.1
  · simp only [h, hc, reduceCtorEq, false_or, ne_eq, not_true_eq_false] at h14; exact h14.2

theorem inv_quietA : Inv quietA := inv_of_check (by decide +kernel)
theorem inv_quietB : Inv quietB := inv_of_check (by decide +kernel)

theorem operational_of {s : State} (hb : s.busy = false) (hf : s.fault = none) (hi : s.inited = true) : Operational s :=
  ⟨⟨hb, hf⟩, hi⟩

theorem witness_DecodeOfEncodeIsTheCommand :
    (Instr.isOn 255 15).wellFormed false = true ∧ Instr.hasGhost.wellFormed true = true := by decide

theorem witness_DecodedWordIsItsEncoding :
    decode true 0x4FFF = .command (.isOn 255 15) ∧ decode true 0x7000 = .command .hasGhost := by decide

theorem witness_StepRunsTheDecodedCommand :
    (given [.command 0x2000] quietA).inputs = .command 0x2000 :: [] ∧ (given [.command 0x2000] quietA).busy = false ∧
      decode (given [.command 0x2000] quietA).cfg.ghostEn 0x2000 = .command .scan := by decide

/-- One state and word for each branch: sticky fault, reserved, not initialised, INIT repeated, row range at ROWS, column
range at COLS, and a command that passes. -/
theorem witness_ChecksAreMadeInOrder :
    (given [.command 0x3000] quietA).inputs = [.command 0x3000] ∧ (given [.command 0x3000] quietA).busy = false ∧
      [(faulted quietA, 0x3000), (quietA, 0x0000), (State.resetWith boardA, 0x3000), (quietA, 0x1000), (quietA, 0x4020),
        (quietA, 0x4014), (quietA, 0x4013)].map (fun p : State × CommandWord => codeAfter p.1 p.2) =
        [some 4, some 1, some 2, some 3, some 4, some 5, some 0] := by decide

theorem witness_FaultIsKeptUntilReset :
    (∃ t, step (given [.command 0x1000] (faulted quietA)) = .next t) ∧
      (given [.command 0x1000] (faulted quietA)).fault = some { kind := .rowRange, word := 0x4020 } ∧
      (given [.command 0x1000] (faulted quietA)).inputs.head? ≠ some .reset := ⟨⟨_, rfl⟩, by decide, by decide⟩

theorem witness_CommandWaitsWhileBusy :
    (given [.command 0x3000] (running .settle 1 quietA)).inputs = .command 0x3000 :: [] ∧
      (given [.command 0x3000] (running .settle 1 quietA)).busy = true := by decide

theorem witness_ResetEdgeRestoresTheResetState :
    (given [.reset] (running .settle 1 quietA)).inputs = .reset :: [] := by decide

theorem witness_NoStepChangesTheConfiguration : ∃ t, step (given [.command 0x2000] quietA) = .next t := ⟨_, rfl⟩

theorem witness_IdleCycleHoldsTheState : quietA.inputs = [] ∧ quietA.busy = false := by decide

/-- One step for each direction. -/
theorem witness_InitedChangesOnlyByInitAndReset :
    (∃ t, step (given [.reset] quietA) = .next t ∧ quietA.inited = true ∧ t.inited = false) ∧
      (∃ t, step (given [.command 0x1000] (State.resetWith boardA)) = .next t ∧
        (State.resetWith boardA).inited = false ∧ t.inited = true) :=
  ⟨⟨_, rfl, by decide, by decide⟩, ⟨_, rfl, by decide, by decide⟩⟩

theorem witness_OnlyInitAndScanChangeTheStore :
    ∃ t, step (given [.command 0x8000] quietA) = .next t ∧ (given [.command 0x8000] quietA).inputs = [.command 0x8000] ∧
      (given [.command 0x8000] quietA).busy = false ∧ (0x8000 : CommandWord) ≠ 0x1000 ∧
      (0x8000 : CommandWord) ≠ 0x2000 := ⟨_, rfl, by decide, by decide, by decide, by decide⟩

/-- The invariant holds in idle states and in the middle of a scan. -/
theorem witness_EveryStepKeepsTheInvariant :
    (Inv (given [.command 0x2000] quietA) ∧ ∃ t, step (given [.command 0x2000] quietA) = .next t) ∧
      (Inv (running .sample 1 { quietB with rowDir := [false, true] }) ∧
        ∃ t, step (running .sample 1 { quietB with rowDir := [false, true] }) = .next t) :=
  ⟨⟨inv_of_check (by decide +kernel), ⟨_, rfl⟩⟩, ⟨inv_of_check (by decide +kernel), ⟨_, rfl⟩⟩⟩

theorem witness_InvariantHoldsAfterReset :
    boardA.wellFormed = true ∧ (board 255 16 255 .b).wellFormed = true ∧
      ({ board 1 8 0 .a with readMode := .byte8 } : Config).wellFormed = true := by decide

theorem witness_InitResult :
    (State.resetWith boardB).fault = none ∧ (State.resetWith boardB).inited = false ∧ quietB.fault = none ∧
      quietB.inited = true := by decide

theorem witness_ModifiedAndGhostAfterInit :
    (∃ t, (State.resetWith (board 2 4 0 .b)).fault = none ∧ (State.resetWith (board 2 4 0 .b)).inited = false ∧
      exec .init (State.resetWith (board 2 4 0 .b)) = .next t ∧ modified t = true) ∧
      ∃ t, exec .init (State.resetWith (board 2 4 0 .a)) = .next t ∧ modified t = false :=
  ⟨⟨_, by decide, by decide, rfl, by decide⟩, ⟨_, rfl, by decide⟩⟩

theorem witness_CommandBeforeInitFaults :
    Instr.isOn 255 15 ≠ .init ∧ (Instr.isOn 255 15).wellFormed (State.resetWith boardA).cfg.ghostEn = true ∧
      (State.resetWith boardA).fault = none ∧ (State.resetWith boardA).inited = false := by decide

/-- A board with DEBOUNCE = 2 that reads four samples of nothing pressed, under each policy. -/
theorem witness_FirstScansAfterInitAreAWindow (p : Policy) :
    let s := reading [15, 15, 15, 15] (State.resetWith (board 2 4 2 p))
    ∃ s0, s.cfg.wellFormed = true ∧ Ready s ∧ s.inited = false ∧ s.cfg.debounce ≠ 0 ∧ exec .init s = .next s0 ∧
      ∀ j, j < s.cfg.debounce.toNat → upcomingWords s0 j = List.replicate s.cfg.rows 0 := by
  cases p <;> exact ⟨_, rfl, ⟨rfl, rfl⟩, rfl, by decide, rfl, by decide +kernel⟩

/-- For ScanCompletes, ScanIsOneTransition and PhasesMakeUpTheScan, on the smallest and the largest board. -/
theorem witness_ScanCompletes :
    quietA.cfg.wellFormed = true ∧ quietA.fault = none ∧ quietA.inited = true ∧
      (board 1 1 0 .a).wellFormed = true ∧ (board 255 16 255 .b).wellFormed = true := by decide

theorem witness_PhasesFollowTheFixedOrder :
    Inv (running .sample 0 { quietB with rowDir := [true, false] }) ∧
      Inv (running .sample 1 { quietB with rowDir := [false, true] }) ∧
      (running .sample 1 { quietB with rowDir := [false, true] }).busy = true ∧
      (running .sample 1 { quietB with rowDir := [false, true] }).inputs.head? ≠ some .reset :=
  ⟨inv_of_check (by decide +kernel), inv_of_check (by decide +kernel), by decide, by decide⟩

/-- For WriteTargetHoldsTheReads, SwapExactlyWhenSettled, CounterAfterScan and CounterBelowThresholdAfterScan. -/
theorem witness_SwapExactlyWhenSettled :
    Inv (reading [13, 15] quietA) ∧ ∃ t, exec .scan (reading [13, 15] quietA) = .next t ∧
      quietA.cfg.wellFormed = true ∧ quietA.mem.wf quietA.cfg.rows = true ∧ quietA.cfg.policy = .a ∧ quietA.fault = none ∧
      quietA.inited = true ∧ quietA.cnt = 0 :=
  ⟨inv_of_check (by decide +kernel), _, rfl, by decide, by decide, by decide, by decide, by decide, by decide⟩

/-- One scan that ends with CNT = 0, of the shadow's own words, and one that a difference leaves above it. -/
theorem witness_PublishExactlyWhenZero :
    quietB.cfg.wellFormed = true ∧ quietB.cfg.policy = .b ∧ quietB.mem.wf quietB.cfg.rows = true ∧
      quietB.fault = none ∧ quietB.inited = true ∧
      (∃ t, exec .scan (reading [13, 15] quietB) = .next t ∧ t.cnt = 0) ∧
      (∃ t, exec .scan (reading [13, 14] quietB) = .next t ∧ t.cnt ≠ 0) :=
  ⟨by decide, by decide, by decide, by decide, by decide, ⟨_, rfl, by decide⟩, ⟨_, rfl, by decide⟩⟩

/-- Two scans in a row that read the same new table, under each policy, with DEBOUNCE = 2; k = 1 and k = 2 are in range. -/
theorem witness_StableReadsSettleAfterTheWindow (p : Policy) :
    let s := reading [13, 15, 13, 15] (settled (board 2 4 2 p) .zero 0 [0, 0] [0, 0])
    Inv s ∧ Operational s ∧ s.cfg.debounce ≠ 0 ∧ [2, 0] ≠ s.mem.bank (writeTarget (policyStart s)) ∧
      ∀ j, j < s.cfg.debounce.toNat → upcomingWords s j = [2, 0] := by
  cases p
  · exact ⟨inv_of_check (by decide +kernel), operational_of rfl rfl rfl, by decide, by decide +kernel, by decide +kernel⟩
  · exact ⟨inv_of_check (by decide +kernel), operational_of rfl rfl rfl, by decide, by decide +kernel, by decide +kernel⟩

theorem witness_StaleBankChangeIsNotDebounced :
    ∃ t, Inv (reading [15, 15] quietA) ∧ Operational (reading [15, 15] quietA) ∧ quietA.cfg.policy = .a ∧
      quietA.cnt = 0 ∧ scanWords (reading [15, 15] quietA) = quietA.mem.bank (previousBank quietA) ∧
      exec .scan (reading [15, 15] quietA) = .next t :=
  ⟨_, inv_of_check (by decide +kernel), operational_of rfl rfl rfl, by decide, by decide, by decide, rfl⟩

theorem witness_SettledChangeOpensASecondWindow :
    ∃ t, Inv (reading [13, 15] quietA) ∧ Operational (reading [13, 15] quietA) ∧ quietA.cfg.policy = .a ∧
      quietA.cnt = 0 ∧ quietA.mem.bank (currentBank quietA) ≠ quietA.mem.bank (previousBank quietA) ∧
      scanWords (reading [13, 15] quietA) = quietA.mem.bank (currentBank quietA) ∧
      exec .scan (reading [13, 15] quietA) = .next t :=
  ⟨_, inv_of_check (by decide +kernel), operational_of rfl rfl rfl, by decide, by decide, by decide, by decide, rfl⟩

theorem witness_OneDifferenceHoldsOffTheCommit :
    ∃ t, Inv (reading [15, 14] quietB) ∧ Operational (reading [15, 14] quietB) ∧ 2 ≤ quietB.cfg.debounce.toNat ∧
      scanWords (reading [15, 14] quietB) ≠ quietB.mem.bank (writeTarget (policyStart quietB)) ∧
      exec .scan (reading [15, 14] quietB) = .next t :=
  ⟨_, inv_of_check (by decide +kernel), operational_of rfl rfl rfl, by decide, by decide, rfl⟩

theorem witness_EventCommitIsTheSameMachine :
    Inv quietB ∧ Operational quietB ∧ quietB.cfg.policy = .b ∧ quietB.cfg.debounce ≠ 0 :=
  ⟨inv_quietB, operational_of rfl rfl rfl, by decide, by decide⟩

theorem witness_DebounceZeroAndOneStayAlike :
    Inv (settled (board 2 4 0 .a) .one 0 [0, 0] [2, 0]) ∧ Inv (settled (board 2 4 1 .a) .zero 0 [2, 0] [0, 0]) ∧
      Twins (settled (board 2 4 0 .a) .one 0 [0, 0] [2, 0]) (settled (board 2 4 1 .a) .zero 0 [2, 0] [0, 0]) :=
  ⟨inv_of_check (by decide +kernel), inv_of_check (by decide +kernel),
    ⟨rfl, rfl, ⟨operational_of rfl rfl rfl, operational_of rfl rfl rfl⟩, ⟨rfl, rfl⟩, ⟨rfl, rfl⟩, rfl, rfl⟩⟩

theorem witness_DebounceZeroAndOneMeetAfterTheFirstScan :
    (board 2 4 0 .b).wellFormed = true ∧ (board 2 4 0 .b).debounce = 0 := by decide

/-- For ReadColsInvertsAtTheReadWidth, at c = W - 1 and c = W. -/
theorem witness_ReadColsInvertsAtTheReadWidth :
    quietA.cfg.wellFormed = true ∧ readWidth quietA.cfg = 4 ∧
      (readCols (reading [0x0] quietA)).1.getLsbD 3 = true ∧ (readCols (reading [0x0] quietA)).1.getLsbD 4 = false := by
  decide

theorem witness_SelectDrivesOneRowAlone : 0 < quietA.cfg.rows ∧ 1 < quietA.cfg.rows := by decide

theorem witness_IsModifiedUnderPolicyA : quietA.fault = none ∧ quietA.inited = true ∧ quietA.cfg.policy = .a := by decide

theorem witness_IsModifiedUnderPolicyB : quietB.fault = none ∧ quietB.inited = true ∧ quietB.cfg.policy = .b := by decide

/-- For IsOnAnswersOneBit, GetRowAnswersOneWord and IsOnIsABitOfGetRow: the last row and column in range, and the first
row and column out of it. -/
theorem witness_IsOnAnswersOneBit :
    quietA.fault = none ∧ quietA.inited = true ∧ (1 : RowIndex).toNat < quietA.cfg.rows ∧
      (3 : ColIndex).toNat < quietA.cfg.cols ∧ quietA.cfg.rows ≤ (2 : RowIndex).toNat ∧
      quietA.cfg.cols ≤ (4 : ColIndex).toNat := by decide

/-- For KeyCountCountsThePressedBits, KeyCountIsAtMostTheReadableBits and PrintDebugChangesNoState. -/
theorem witness_KeyCount :
    Inv quietA ∧ Operational quietA ∧ quietA.cfg.wellFormed = true ∧ quietA.fault = none ∧ quietA.inited = true :=
  ⟨inv_quietA, operational_of rfl rfl rfl, by decide, by decide, by decide⟩

/-- For AccessorsChangeNoState too. -/
theorem witness_AccessorsDoNotDisturbEachOther :
    ∃ t, Instr.isModified ≠ .init ∧ Instr.isModified ≠ .scan ∧ Instr.hasGhost ≠ .init ∧ Instr.hasGhost ≠ .scan ∧
      exec .isModified quietA = .next t ∧ t.fault = none :=
  ⟨_, by decide, by decide, by decide, by decide, rfl, by decide⟩

theorem witness_HasGhostFindsAContainedRow :
    quietA.fault = none ∧ quietA.inited = true ∧ quietA.cfg.ghostEn = true ∧
      (State.resetWith { boardA with ghostEn := false }).fault = none ∧
      (State.resetWith { boardA with ghostEn := false }).cfg.ghostEn = false := by decide

/-- Each side alone: one key in every row of four, and two keys in one row. -/
theorem witness_FewKeysAreNoGhost :
    ((∀ r, r < 4 → popcount (committedWord (settled (board 4 4 5 .b) .zero 0 [1, 1, 1, 1] [0, 0, 0, 0]) r) ≤ 1) ∧
      ¬ keyCount (settled (board 4 4 5 .b) .zero 0 [1, 1, 1, 1] [0, 0, 0, 0]) < 4) ∧
      (keyCount (settled boardB .zero 0 [3, 1] [0, 0]) < 4 ∧
        ¬ popcount (committedWord (settled boardB .zero 0 [3, 1] [0, 0]) 0) ≤ 1) := by decide

theorem witness_EqualRowsAreAGhost :
    committedWord (settled boardB .zero 0 [3, 3] [0, 0]) 0 = committedWord (settled boardB .zero 0 [3, 3] [0, 0]) 1 ∧
      2 ≤ popcount (committedWord (settled boardB .zero 0 [3, 3] [0, 0]) 1) ∧
      (settled boardB .zero 0 [3, 3] [0, 0]).cfg.ghostEn = true ∧
      (settled boardB .zero 0 [3, 3] [0, 0]).fault = none ∧
      (settled boardB .zero 0 [3, 3] [0, 0]).inited = true := by decide

end Sys2Proof.Tests
end

/-! ## The word of a decoded command (30_encoding.md R91 to R93, R96) -/

section Decoder

namespace Sys2Proof

/-- The three fields of a word make up the word. -/
theorem assemble_fields (w : CommandWord) : assemble (opField w) (rowField w) (colField w) = w := by
  apply BitVec.eq_of_getLsbD_eq
  intro k hk
  interval_cases k <;> simp [assemble, opField, rowField, colField]

theorem assemble_eq_of_fields {w : CommandWord} {op : BitVec 4} {row : RowIndex} {col : ColIndex}
    (ho : (opField w).toNat = op.toNat) (hr : rowField w = row) (hc : colField w = col) : assemble op row col = w := by
  rw [← BitVec.eq_of_toNat_eq ho, ← hr, ← hc, assemble_fields]

theorem decodeBare_eq_command_iff {i j : Instr} {w : CommandWord} :
    decodeBare i w = .command j ↔ i = j ∧ rowField w = 0 ∧ colField w = 0 := by
  unfold decodeBare
  split
  · next hz => simp [hz]
  · next hz => exact ⟨nofun, fun ⟨_, hf⟩ => absurd hf hz⟩

/-- A word that decodes to a command is the word of that command. -/
theorem encode_of_decode {g : Bool} {w : CommandWord} {i : Instr} (h : decode g w = .command i) : encode i = w := by
  have bare : ∀ {j : Instr} {op : BitVec 4}, encode j = assemble op 0 0 → (opField w).toNat = op.toNat →
      decodeBare j w = .command i → encode i = w := by
    intro j op hj ho hd
    obtain ⟨rfl, hr, hc⟩ := decodeBare_eq_command_iff.mp hd
    rw [hj, assemble_eq_of_fields ho hr hc]
  unfold decode at h
  split at h
  case h_1 ho => exact bare rfl (op := 1) ho h
  case h_2 ho => exact bare rfl (op := 2) ho h
  case h_3 ho => exact bare rfl (op := 3) ho h
  case h_4 ho =>
    cases h
    exact assemble_eq_of_fields (op := 4) ho rfl rfl
  case h_5 ho =>
    split at h
    · next hc =>
      cases h
      exact assemble_eq_of_fields (op := 5) ho rfl hc
    · cases h
  case h_6 ho => exact bare rfl (op := 6) ho h
  case h_7 ho =>
    split at h
    · exact bare rfl (op := 7) ho h
    · cases h
  case h_8 ho => exact bare rfl (op := 8) ho h
  case h_9 => cases h

end Sys2Proof

end Decoder

/-! ## What a step can do -/

section Transitions

namespace Sys2Proof.Machine

/-- The rule that a command executes once its checks have passed. -/
def commandBody : Instr → State → State
  | .init => initBody
  | .scan => scanBody
  | .isModified => fun s => respond (boolWord (modified s)) s
  | .isOn row col => fun s => respond (boolWord (committedBit s row.toNat col.toNat)) s
  | .getRow row => fun s => respond (committedWord s row.toNat) s
  | .keyCount => fun s => respond (BitVec.ofNat 16 (keyCount s)) s
  | .hasGhost => fun s => respond (boolWord (ghost s)) s
  | .printDebug => printDebugBody

/-- Every command goes through the checks of 30_encoding.md R99. -/
theorem exec_eq_runCommand (i : Instr) (s : State) : exec i s = .next (runCommand i (commandBody i) s) := by
  cases i <;> rfl

/-- t is s but for FAULT and the two output ports. -/
def onlyPortsDiffer (s t : State) : Prop := t = { s with fault := t.fault, rsp := t.rsp, sink := t.sink }

theorem onlyPortsDiffer_stickyFault (s : State) : onlyPortsDiffer s (stickyFault s) := rfl

theorem onlyPortsDiffer_raiseFault (k : FaultKind) (w : CommandWord) (s : State) :
    onlyPortsDiffer s (raiseFault k w s) := rfl

theorem onlyPortsDiffer_refuseReserved (w : CommandWord) (s : State) : onlyPortsDiffer s (refuseReserved w s) := by
  rcases refuseReserved_cases w s with ⟨_, h⟩ | ⟨_, h⟩ <;> rw [h]
  · exact onlyPortsDiffer_stickyFault s
  · exact onlyPortsDiffer_raiseFault _ w s

/-- The commands that only read write the ports alone (44_accessors.md R205, 45_ghost_detector.md R222). -/
theorem onlyPortsDiffer_commandBody {i : Instr} (hi : i ≠ .init) (hs : i ≠ .scan) (s : State) :
    onlyPortsDiffer s (commandBody i s) := by
  cases i with
  | init => exact absurd rfl hi
  | scan => exact absurd rfl hs
  | isModified | isOn | getRow | keyCount | hasGhost | printDebug => rfl

theorem sameRegisters_refl (s : State) : sameRegisters s s := ⟨rfl, rfl, rfl, rfl, rfl, rfl, rfl, rfl, rfl, rfl⟩

theorem onlyPortsDiffer.sameRegisters {s t : State} (h : onlyPortsDiffer s t) : sameRegisters s t := by
  rw [h]
  exact sameRegisters_refl s

/-- A command that passes its checks is INIT before initialisation, or another command after it. -/
theorem inited_of_firstFault_eq_none {i : Instr} {s : State} (h : firstFault i s = none) :
    s.inited = true ↔ i ≠ .init := by
  simp only [firstFault, Option.or_eq_none_iff] at h
  obtain ⟨_, hi, _⟩ := h
  by_cases e : i = .init
  · simpa [e, initialisationFault] using hi
  · rw [initialisationFault_of_ne e] at hi
    simpa [e] using hi

/-- INIT passes its checks exactly when it has not been executed. -/
theorem firstFault_init {s : State} (h : s.inited = false) : firstFault .init s = none := by
  simp [firstFault, reservedFault, Instr.wellFormed, initialisationFault, rowFault, rowOperand, colFault, colOperand, h]

/-- An initialised block finds no fault with SCAN. -/
theorem firstFault_scan {s : State} (h : s.inited = true) : firstFault .scan s = none := by
  simp [firstFault, reservedFault, Instr.wellFormed, initialisationFault, rowFault, rowOperand, colFault, colOperand, h]

theorem exec_init {s : State} (hf : s.fault = none) (hi : s.inited = false) : exec .init s = .next (initBody s) := by
  rw [exec_eq_runCommand, runCommand_passes hf (firstFault_init hi)]
  rfl

theorem exec_scan {s : State} (hf : s.fault = none) (hi : s.inited = true) : exec .scan s = .next (scanBody s) := by
  rw [exec_eq_runCommand, runCommand_passes hf (firstFault_scan hi)]
  rfl

/-- What an accepted word can do (30_encoding.md R99): write the ports alone, or be INIT or SCAN and run its rule. -/
theorem acceptWord_cases {w : CommandWord} {s t : State} (h : acceptWord w s = .next t) :
    onlyPortsDiffer s t ∨
      (w = 0x1000 ∧ s.fault = none ∧ s.inited = false ∧ t = initBody s) ∨
      (w = 0x2000 ∧ s.fault = none ∧ s.inited = true ∧ t = scanBody s) := by
  unfold acceptWord at h
  split at h
  · next i hd =>
    rw [exec_eq_runCommand] at h
    cases h
    rcases runCommand_cases i (commandBody i) s with ⟨_, e⟩ | ⟨k, _, _, e⟩ | ⟨hf, hk, e⟩ <;> rw [e]
    · exact .inl (onlyPortsDiffer_stickyFault s)
    · exact .inl (onlyPortsDiffer_raiseFault k _ s)
    · have hw : w = encode i := (encode_of_decode hd).symm
      have hinit := inited_of_firstFault_eq_none hk
      by_cases hi : i = .init
      · subst hi
        exact .inr (.inl ⟨hw, hf, by simpa using hinit, rfl⟩)
      by_cases hs : i = .scan
      · subst hs
        exact .inr (.inr ⟨hw, hf, hinit.mpr hi, rfl⟩)
      · exact .inl (onlyPortsDiffer_commandBody hi hs s)
  · cases h
    exact .inl (onlyPortsDiffer_refuseReserved w s)

/-- The transitions of the block, one constructor for each thing a step can do. -/
inductive Transition (s : State) : State → Prop where
  /-- A reset edge (70_reset_and_hazards.md R280). -/
  | resetEdge (rest : List Input) (hin : s.inputs = .reset :: rest) :
      Transition s (hardwareReset { s with inputs := rest })
  /-- A phase of the running scan (41_scan_sequencer.md R145). -/
  | nextPhase (hb : s.busy = true) : Transition s (tick s)
  /-- An idle cycle (60_exceptions.md R259). -/
  | idleCycle (hin : s.inputs = []) (hb : s.busy = false) : Transition s (clearResponse s)
  /-- An accepted word that is refused, or a command that only reads. -/
  | answered (w : CommandWord) (rest : List Input) (t : State) (hin : s.inputs = .command w :: rest)
      (hb : s.busy = false) (ht : onlyPortsDiffer { s with inputs := rest } t) : Transition s t
  /-- INIT, its checks passed (41_scan_sequencer.md R140). -/
  | initialised (rest : List Input) (hin : s.inputs = .command 0x1000 :: rest) (hb : s.busy = false)
      (hf : s.fault = none) (hi : s.inited = false) : Transition s (initBody { s with inputs := rest })
  /-- SCAN, its checks passed (41_scan_sequencer.md R141). -/
  | scanned (rest : List Input) (hin : s.inputs = .command 0x2000 :: rest) (hb : s.busy = false)
      (hf : s.fault = none) (hi : s.inited = true) : Transition s (scanBody { s with inputs := rest })

theorem transition_of_step {s t : State} (h : step s = .next t) : Transition s t := by
  unfold step at h
  split at h
  · next rest hin =>
    cases h
    exact .resetEdge rest hin
  · next w rest hin =>
    split at h
    · next hb =>
      cases h
      exact .nextPhase hb
    · next hb =>
      have hb : s.busy = false := by simpa using hb
      rcases acceptWord_cases h with ht | ⟨rfl, hf, hi, rfl⟩ | ⟨rfl, hf, hi, rfl⟩
      · exact .answered w rest t hin hb ht
      · exact .initialised rest hin hb hf hi
      · exact .scanned rest hin hb hf hi
  · next hin =>
    split at h
    · next hb =>
      cases h
      exact .nextPhase hb
    · next hb =>
      cases h
      exact .idleCycle hin (by simpa using hb)

/-! ### INITED, FAULT and the configuration through INIT, a phase and a scan -/

/-- INIT, field by field (41_scan_sequencer.md R140). -/
theorem initBody_eq (s : State) :
    initBody s =
      { s with
        mem := clearedMemory s.cfg.rows
        sel := if s.cfg.policy = .a then .zero else s.sel
        cnt := s.cfg.debounce
        rowDir := List.replicate s.cfg.rows false
        rowOut := List.replicate s.cfg.rows false
        busy := false
        inited := true
        rsp := some (.data 0x0000) } := by
  simp only [initBody, writeSel_eq]
  rfl

/-- One transition of the sequencer, phase by phase (41_scan_sequencer.md R145). -/
theorem tick_swap {s : State} (h : s.phase = .swap) : tick s = setPhase .deselect (setRidx 0 (policyStart s)) := by
  simp [tick, h]

theorem tick_deselect {s : State} (h : s.phase = .deselect) : tick s = setPhase .select (deselectAll s) := by
  simp [tick, h]

theorem tick_select {s : State} (h : s.phase = .select) : tick s = setPhase .settle (selectRow s.ridx.toNat s) := by
  simp [tick, h]

theorem tick_settle {s : State} (h : s.phase = .settle) : tick s = setPhase .sample s := by
  simp [tick, h, settle]

/-- The state after the sample of a phase is taken and staged. -/
def stageSample (s : State) : State := policyStage s.ridx.toNat (readCols s).1 (readCols s).2

/-- SAMPLE before the last row: the loop goes on with the next row. -/
theorem tick_sample_next {s : State} (h : s.phase = .sample) (hr : s.ridx.toNat + 1 < s.cfg.rows) :
    tick s = setPhase .deselect (setRidx (s.ridx.toNat + 1) (stageSample s)) := by
  simp [tick, h, hr, stageSample]

/-- SAMPLE of the last row: the loop ends. -/
theorem tick_sample_last {s : State} (h : s.phase = .sample) (hr : ¬ s.ridx.toNat + 1 < s.cfg.rows) :
    tick s = setPhase .finalDeselect (stageSample s) := by
  simp [tick, h, hr, stageSample]

theorem tick_finalDeselect {s : State} (h : s.phase = .finalDeselect) : tick s = setPhase .count (deselectAll s) := by
  simp [tick, h]

theorem tick_count {s : State} (h : s.phase = .count) : tick s = setPhase .respond (policyEnd s) := by
  simp [tick, h]

theorem tick_respond {s : State} (h : s.phase = .respond) :
    tick s = respond statusSuccess (setPhase .idle (setBusy false s)) := by
  simp [tick, h]

@[simp] theorem stageSample_cfg (s : State) : (stageSample s).cfg = s.cfg := by simp [stageSample, readCols]
@[simp] theorem stageSample_sel (s : State) : (stageSample s).sel = s.sel := by simp [stageSample, readCols]
@[simp] theorem stageSample_rowDir (s : State) : (stageSample s).rowDir = s.rowDir := by simp [stageSample, readCols]
@[simp] theorem stageSample_rowOut (s : State) : (stageSample s).rowOut = s.rowOut := by simp [stageSample, readCols]
@[simp] theorem stageSample_ridx (s : State) : (stageSample s).ridx = s.ridx := by simp [stageSample, readCols]
@[simp] theorem stageSample_busy (s : State) : (stageSample s).busy = s.busy := by simp [stageSample, readCols]
@[simp] theorem stageSample_inited (s : State) : (stageSample s).inited = s.inited := by simp [stageSample, readCols]
@[simp] theorem stageSample_fault (s : State) : (stageSample s).fault = s.fault := by simp [stageSample, readCols]

/-- No phase changes the configuration, INITED or FAULT (41_scan_sequencer.md R145). -/
theorem tick_keeps (s : State) : (tick s).cfg = s.cfg ∧ (tick s).inited = s.inited ∧ (tick s).fault = s.fault := by
  cases hp : s.phase with
  | idle => simp [tick, hp]
  | swap => simp [tick_swap hp]
  | deselect => simp [tick_deselect hp]
  | select => simp [tick_select hp]
  | settle => simp [tick_settle hp]
  | sample =>
    by_cases hr : s.ridx.toNat + 1 < s.cfg.rows
    · simp [tick_sample_next hp hr]
    · simp [tick_sample_last hp hr]
  | finalDeselect => simp [tick_finalDeselect hp]
  | count => simp [tick_count hp]
  | respond => simp [tick_respond hp]

@[simp] theorem tick_cfg (s : State) : (tick s).cfg = s.cfg := (tick_keeps s).1
@[simp] theorem tick_inited (s : State) : (tick s).inited = s.inited := (tick_keeps s).2.1
@[simp] theorem tick_fault (s : State) : (tick s).fault = s.fault := (tick_keeps s).2.2

/-- The state of a scan after its row loop (41_scan_sequencer.md R141). -/
def scannedRows (s : State) : State := (List.range s.cfg.rows).foldl rowStep (policyStart (acceptScan s))

/-- What every row step keeps, the row loop of a scan keeps. -/
theorem scannedRows_induction {p : State → Prop} {s : State} (h : p (policyStart (acceptScan s)))
    (hr : ∀ u r, p u → p (rowStep u r)) : p (scannedRows s) := by
  unfold scannedRows
  exact List.foldlRecOn _ _ h fun u hu r _ => hr u r hu

@[simp] theorem scannedRows_cfg (s : State) : (scannedRows s).cfg = s.cfg :=
  scannedRows_induction (p := fun u => u.cfg = s.cfg) (by simp) (by simp)
@[simp] theorem scannedRows_inited (s : State) : (scannedRows s).inited = s.inited :=
  scannedRows_induction (p := fun u => u.inited = s.inited) (by simp) (by simp)
@[simp] theorem scannedRows_fault (s : State) : (scannedRows s).fault = s.fault :=
  scannedRows_induction (p := fun u => u.fault = s.fault) (by simp) (by simp)

/-- A scan is its row loop, PolicyEnd, every row released, and the response (41_scan_sequencer.md R141). -/
theorem scanBody_eq (s : State) :
    scanBody s =
      respond statusSuccess (setPhase .idle (setBusy false (setPhase .respond (policyEnd (setPhase .count
        (deselectAll (setPhase .finalDeselect (scannedRows s)))))))) := by
  unfold scanBody scannedRows
  simp

@[simp] theorem scanBody_cfg (s : State) : (scanBody s).cfg = s.cfg := by simp [scanBody_eq]
@[simp] theorem scanBody_rowDir (s : State) : (scanBody s).rowDir = List.replicate s.cfg.rows false := by simp [scanBody_eq]
@[simp] theorem scanBody_rowOut (s : State) : (scanBody s).rowOut = List.replicate s.cfg.rows false := by simp [scanBody_eq]
@[simp] theorem scanBody_phase (s : State) : (scanBody s).phase = .idle := by simp [scanBody_eq]
@[simp] theorem scanBody_busy (s : State) : (scanBody s).busy = false := by simp [scanBody_eq]
@[simp] theorem scanBody_inited (s : State) : (scanBody s).inited = s.inited := by simp [scanBody_eq]
@[simp] theorem scanBody_fault (s : State) : (scanBody s).fault = s.fault := by simp [scanBody_eq]

/-- The store, the counter and SEL after a scan are those of PolicyEnd after the row loop. -/
theorem scanBody_sameStore (s : State) : sameStore (policyEnd (scannedRows s)) (scanBody s) := by
  have e : sameStore (scannedRows s) (setPhase .count (deselectAll (setPhase .finalDeselect (scannedRows s)))) :=
    ⟨rfl, rfl, rfl, rfl⟩
  obtain ⟨hm, hc⟩ := policyEnd_congr e
  rw [scanBody_eq]
  exact ⟨by simp, by simp, by simpa using hm, by simpa using hc⟩

end Sys2Proof.Machine

end Transitions

/-! ## INITED and the frame of the other commands (10_state.md R30, R43) -/

section Frames

namespace Sys2Proof.Machine

/-- Settles O13, by the transitions of the block. -/
theorem initedChangesOnlyByInitAndReset : Obligations.InitedChangesOnlyByInitAndReset := by
  intro s t h
  have same : ∀ {u : State}, u.inited = s.inited →
      (s.inited = true → u.inited = false → s.inputs.head? = some .reset) ∧
        (s.inited = false → u.inited = true → s.inputs.head? = some (.command 0x1000)) := by
    intro u e
    rw [e]
    exact ⟨fun h1 h0 => by simp [h1] at h0, fun h0 h1 => by simp [h0] at h1⟩
  cases transition_of_step h with
  | resetEdge rest hin => exact ⟨fun _ _ => by simp [hin], fun _ => nofun⟩
  | nextPhase => exact same (tick_inited s)
  | idleCycle => exact same (clearResponse_inited s)
  | answered w rest _ _ _ ht =>
    obtain ⟨_, _, _, _, _, _, _, _, _, hi⟩ := ht.sameRegisters
    exact same hi
  | initialised rest hin _ _ hi => exact ⟨fun h1 => by simp [hi] at h1, fun _ _ => by simp [hin]⟩
  | scanned rest => exact same (scanBody_inited { s with inputs := rest })

/-- Settles O14: a word other than those of INIT and SCAN is only answered. -/
theorem onlyInitAndScanChangeTheStore : Obligations.OnlyInitAndScanChangeTheStore := by
  intro s t w rest hin hb h hinit hscan
  have eq_word : ∀ {v : CommandWord} {r : List Input}, s.inputs = .command v :: r → w = v := by
    intro v r hv
    rw [hin] at hv
    cases hv
    rfl
  cases transition_of_step h with
  | resetEdge _ hin' => simp [hin] at hin'
  | nextPhase hb' => simp [hb] at hb'
  | idleCycle => exact sameRegisters_refl s
  | answered _ _ _ _ _ ht => exact ht.sameRegisters
  | initialised _ hin' => exact absurd (eq_word hin') hinit
  | scanned _ hin' => exact absurd (eq_word hin') hscan

end Sys2Proof.Machine

end Frames

/-! ## The store of an initialised block (10_state.md R21, R22, R36, R38) -/

section StoreInvariant

namespace Sys2Proof

/-- A legal board has 1 to 255 rows (00_scope.md R5). -/
theorem Config.rows_bounds {c : Config} (h : c.wellFormed = true) : 1 ≤ c.rows ∧ c.rows ≤ 255 := by
  simp only [Config.wellFormed, Bool.and_eq_true, decide_eq_true_eq] at h
  obtain ⟨⟨⟨⟨hpos, hmax⟩, _⟩, _⟩, _⟩ := h
  exact ⟨hpos, hmax⟩

end Sys2Proof

namespace Sys2Proof.Machine

/-- Every word of both banks has only the bits that a read can set (10_state.md R36). -/
def readableBits (c : Config) (m : Memory) : Prop := ∀ b, ∀ w ∈ m.bank b, w >>> readWidth c = 0

/-- `readableBits` says of the banks one by one what the invariant says of both. -/
theorem readableBits_iff {c : Config} {m : Memory} :
    readableBits c m ↔ ∀ w ∈ m.bank0 ++ m.bank1, w >>> readWidth c = 0 := by
  simp only [List.mem_append]
  constructor
  · rintro h w (hw | hw)
    · exact h .zero w hw
    · exact h .one w hw
  · intro h b w hw
    cases b
    · exact h w (.inl hw)
    · exact h w (.inr hw)

theorem readableBits_clearedMemory (c : Config) (rows : Nat) : readableBits c (clearedMemory rows) := by
  intro b w hw
  have hz : w = 0 := by
    cases b <;> exact List.eq_of_mem_replicate hw
  simp [hz]

/-- A whole bank of readable words keeps the store readable. -/
theorem readableBits.setBank {c : Config} {m : Memory} (h : readableBits c m) (b : Bank) {ws : List RowWord}
    (hw : ∀ w ∈ ws, w >>> readWidth c = 0) : readableBits c (m.setBank b ws) := by
  intro a
  by_cases e : a = b
  · rw [e, Memory.bank_setBank]
    exact hw
  · rw [Memory.bank_setBank_ne _ _ e]
    exact h a

/-- A word that ReadCols gives has no bit from W up: the complement is taken at width W (40_row_column_driver.md R123). -/
theorem invertSample_shift (c : Config) (raw : BitVec 16) : invertSample c raw >>> readWidth c = 0 := by
  apply BitVec.eq_of_getLsbD_eq
  intro i _
  simp [invertSample]

/-- What the policy hooks of a scan keep of the store, CNT and SEL. -/
structure StoreOk (s : State) : Prop where
  shape : s.mem.wf s.cfg.rows = true
  counter : s.cnt.toNat ≤ s.cfg.debounce.toNat
  readable : readableBits s.cfg s.mem
  selWired : s.cfg.policy = .b → s.sel = .zero

theorem StoreOk.congr {s t : State} (h : StoreOk s) (e : sameStore s t) : StoreOk t := by
  obtain ⟨hc, hs, hm, hn⟩ := e
  constructor
  · rw [hm, hc]; exact h.shape
  · rw [hn, hc]; exact h.counter
  · rw [hm, hc]; exact h.readable
  · rw [hs, hc]; exact h.selWired

theorem StoreOk.policyStart {s : State} (h : StoreOk s) : StoreOk (policyStart s) := by
  rw [policyStart_eq]
  exact ⟨h.shape, h.counter, h.readable, fun (hb : s.cfg.policy = .b) => by simpa [hb] using h.selWired hb⟩

/-- Staging a word that ReadCols gave keeps the store. -/
theorem StoreOk.policyStage {s : State} (h : StoreOk s) (r : Nat) (raw : BitVec 16) :
    StoreOk (policyStage r (invertSample s.cfg raw) s) := by
  rcases policyStage_cases r (invertSample s.cfg raw) s with ⟨_, e⟩ | ⟨_, e⟩ <;> rw [e]
  · exact h
  · have hw : ∀ w ∈ (s.mem.bank (writeTarget s)).set r (invertSample s.cfg raw), w >>> readWidth s.cfg = 0 := by
      intro w hw
      rcases List.mem_or_eq_of_mem_set hw with hold | rfl
      · exact h.readable _ w hold
      · exact invertSample_shift s.cfg raw
    exact ⟨Memory.write_wf h.shape _ _ _, Nat.le_refl _, h.readable.setBank _ hw, h.selWired⟩

theorem StoreOk.stageSample {s : State} (h : StoreOk s) : StoreOk (stageSample s) :=
  StoreOk.policyStage (s := dropSamples 1 s) (h.congr ⟨rfl, rfl, rfl, rfl⟩) _ (sampleAt s 0)

theorem StoreOk.rowStep {s : State} (h : StoreOk s) (r : Nat) : StoreOk (rowStep s r) := by
  obtain ⟨hm, hc⟩ := rowStep_store s r
  exact (h.policyStage r (sampleAt s 0)).congr ⟨by simp, by simp, hm, hc⟩

/-- PolicyEnd copies at most one bank over the other. -/
theorem policyEnd_mem_cases (s : State) :
    (policyEnd s).mem = s.mem ∨ (policyEnd s).mem = s.mem.setBank .zero (s.mem.bank .one) := by
  cases hp : s.cfg.policy with
  | a => rw [policyEnd_a hp, countDown_eq]; exact .inl rfl
  | b =>
    rw [policyEnd_b hp]
    by_cases hz : (countDown s).cnt = 0
    · exact .inr (if_pos hz)
    · exact .inl (if_neg hz)

theorem StoreOk.policyEnd {s : State} (h : StoreOk s) : StoreOk (policyEnd s) := by
  have hc : (Machine.policyEnd s).cnt.toNat ≤ s.cfg.debounce.toNat := by
    have := h.counter
    rw [policyEnd_cnt]
    omega
  rcases policyEnd_mem_cases s with e | e
  · exact ⟨by simpa [e] using h.shape, by simpa using hc, by simpa [e] using h.readable, by simpa using h.selWired⟩
  · have hs := Memory.setBank_wf h.shape .zero (Memory.wf_length h.shape .one)
    have hr := h.readable.setBank .zero (h.readable .one)
    exact ⟨by simpa [e] using hs, by simpa using hc, by simpa [e] using hr, by simpa using h.selWired⟩

/-- Under POLICY B a scan that ends with CNT = 0 has published its shadow (43_debounce_integrator.md R182, R184). -/
theorem policyEnd_published {s : State} (hp : s.cfg.policy = .b) (hz : (policyEnd s).cnt = 0) :
    (policyEnd s).mem.bank0 = (policyEnd s).mem.bank1 := by
  rw [policyEnd_b hp] at hz ⊢
  simp only at hz ⊢
  rw [if_pos hz]
  rfl

theorem StoreOk.scannedRows {s : State} (h : StoreOk s) : StoreOk (scannedRows s) :=
  have hstart : StoreOk (Machine.policyStart (acceptScan s)) :=
    StoreOk.policyStart (h.congr ⟨rfl, rfl, rfl, rfl⟩)
  scannedRows_induction hstart fun _ r hu => hu.rowStep r

theorem StoreOk.scanBody {s : State} (h : StoreOk s) : StoreOk (scanBody s) :=
  h.scannedRows.policyEnd.congr (scanBody_sameStore s)

/-- A scan counts down once from at most DEBOUNCE. -/
theorem StoreOk.scanBody_cnt {s : State} (h : StoreOk s) :
    (Machine.scanBody s).cnt.toNat ≤ s.cfg.debounce.toNat - 1 := by
  obtain ⟨_, _, _, hn⟩ := scanBody_sameStore s
  have hc := h.scannedRows.counter
  rw [scannedRows_cfg] at hc
  rw [hn, policyEnd_cnt]
  omega

theorem scanBody_published {s : State} (hp : s.cfg.policy = .b) (hz : (scanBody s).cnt = 0) :
    (scanBody s).mem.bank0 = (scanBody s).mem.bank1 := by
  obtain ⟨_, _, hm, hn⟩ := scanBody_sameStore s
  rw [hm]
  exact policyEnd_published (by simpa using hp) (hn ▸ hz)

theorem StoreOk.tick {s : State} (h : StoreOk s) : StoreOk (tick s) := by
  cases hp : s.phase with
  | idle => simpa [Machine.tick, hp] using h
  | swap => rw [tick_swap hp]; exact h.policyStart.congr ⟨rfl, rfl, rfl, rfl⟩
  | deselect => rw [tick_deselect hp]; exact h.congr ⟨rfl, rfl, rfl, rfl⟩
  | select => rw [tick_select hp]; exact h.congr ⟨rfl, rfl, rfl, rfl⟩
  | settle => rw [tick_settle hp]; exact h.congr ⟨rfl, rfl, rfl, rfl⟩
  | sample =>
    by_cases hr : s.ridx.toNat + 1 < s.cfg.rows
    · rw [tick_sample_next hp hr]; exact h.stageSample.congr ⟨rfl, rfl, rfl, rfl⟩
    · rw [tick_sample_last hp hr]; exact h.stageSample.congr ⟨rfl, rfl, rfl, rfl⟩
  | finalDeselect => rw [tick_finalDeselect hp]; exact h.congr ⟨rfl, rfl, rfl, rfl⟩
  | count => rw [tick_count hp]; exact h.policyEnd.congr ⟨rfl, rfl, rfl, rfl⟩
  | respond => rw [tick_respond hp]; exact h.congr ⟨rfl, rfl, rfl, rfl⟩

end Sys2Proof.Machine

end StoreInvariant

/-! ## The sequencer and the row pins (10_state.md R26, R28, R29, R37) -/

section SequencerInvariant

namespace Sys2Proof.Machine

/-- What the invariant says of the row pins, PHASE, RIDX and BUSY. -/
structure SequencerOk (s : State) : Prop where
  dirLength : s.rowDir.length = s.cfg.rows
  oneRow : s.rowDir.count true ≤ 1
  outLow : s.rowOut = List.replicate s.cfg.rows false
  quiet : pinsIdleIn s.phase = true → s.rowDir = List.replicate s.cfg.rows false
  driven : s.phase = .settle ∨ s.phase = .sample →
    s.rowDir = (List.replicate s.cfg.rows false).set s.ridx.toNat true
  rowIndex : inRowLoop s.phase = true → s.ridx.toNat < s.cfg.rows
  busyPhase : s.busy = true ↔ s.phase ≠ .idle

/-- With every row released, in a phase that drives none. -/
theorem SequencerOk.of_released {s : State} (hdir : s.rowDir = List.replicate s.cfg.rows false)
    (hout : s.rowOut = List.replicate s.cfg.rows false) (hphase : s.phase ≠ .settle ∧ s.phase ≠ .sample)
    (hrow : inRowLoop s.phase = true → s.ridx.toNat < s.cfg.rows) (hbusy : s.busy = true ↔ s.phase ≠ .idle) :
    SequencerOk s where
  dirLength := by simp [hdir]
  oneRow := by simp [hdir, List.count_replicate]
  outLow := hout
  quiet _ := hdir
  driven := by simp [hphase]
  rowIndex := hrow
  busyPhase := hbusy

/-- With row r alone driven, in a phase that need not have released it. -/
theorem SequencerOk.of_driven {s : State} {r : Nat} (hr : r < s.cfg.rows)
    (hdir : s.rowDir = (List.replicate s.cfg.rows false).set r true)
    (hout : s.rowOut = List.replicate s.cfg.rows false) (hphase : pinsIdleIn s.phase = false)
    (hridx : s.phase = .settle ∨ s.phase = .sample → s.ridx.toNat = r)
    (hrow : inRowLoop s.phase = true → s.ridx.toNat < s.cfg.rows) (hbusy : s.busy = true ↔ s.phase ≠ .idle) :
    SequencerOk s where
  dirLength := by simp [hdir]
  oneRow := by
    rw [hdir, List.count_set (by simpa using hr)]
    simp [List.count_replicate]
  outLow := hout
  quiet hq := by simp [hphase] at hq
  driven hd := by rw [hridx hd, hdir]
  rowIndex := hrow
  busyPhase := hbusy

theorem SequencerOk.tick {s : State} (h : SequencerOk s) (hc : s.cfg.wellFormed = true) : SequencerOk (tick s) := by
  obtain ⟨hpos, hmax⟩ := Config.rows_bounds hc
  have hbusy := h.busyPhase
  have hout := h.outLow
  cases hp : s.phase with
  | idle => simpa [Machine.tick, hp] using h
  | swap =>
    have hdir := h.quiet (by simp [hp, pinsIdleIn])
    rw [tick_swap hp]
    exact .of_released (by simpa using hdir) (by simpa using hout) (by simp) (fun _ => by simp; omega)
      (by simpa [hp] using hbusy)
  | deselect =>
    have hrow := h.rowIndex (by simp [hp, inRowLoop])
    rw [tick_deselect hp]
    exact .of_released (by simp) (by simp) (by simp) (fun _ => by simpa using hrow) (by simpa [hp] using hbusy)
  | select =>
    have hrow := h.rowIndex (by simp [hp, inRowLoop])
    have hdir := h.quiet (by simp [hp, pinsIdleIn])
    rw [tick_select hp]
    exact .of_driven hrow (by simp [hdir]) (by simp [hout]) (by simp [pinsIdleIn]) (by simp)
      (fun _ => by simpa using hrow) (by simpa [hp] using hbusy)
  | settle =>
    have hrow := h.rowIndex (by simp [hp, inRowLoop])
    have hdir := h.driven (.inl hp)
    rw [tick_settle hp]
    exact .of_driven hrow (by simpa using hdir) (by simpa using hout) (by simp [pinsIdleIn]) (by simp)
      (fun _ => by simpa using hrow) (by simpa [hp] using hbusy)
  | sample =>
    have hrow := h.rowIndex (by simp [hp, inRowLoop])
    have hdir := h.driven (.inr hp)
    by_cases hr : s.ridx.toNat + 1 < s.cfg.rows
    · rw [tick_sample_next hp hr]
      refine .of_driven (r := s.ridx.toNat) (by simpa using hrow) (by simpa using hdir) (by simpa using hout)
        (by simp [pinsIdleIn]) (by simp) (fun _ => ?_) (by simpa [hp] using hbusy)
      have hmod : (s.ridx.toNat + 1) % 256 = s.ridx.toNat + 1 := Nat.mod_eq_of_lt (by omega)
      simpa [hmod] using hr
    · rw [tick_sample_last hp hr]
      exact .of_driven (r := s.ridx.toNat) (by simpa using hrow) (by simpa using hdir) (by simpa using hout)
        (by simp [pinsIdleIn]) (by simp) (by simp [inRowLoop]) (by simpa [hp] using hbusy)
  | finalDeselect =>
    rw [tick_finalDeselect hp]
    exact .of_released (by simp) (by simp) (by simp) (by simp [inRowLoop]) (by simpa [hp] using hbusy)
  | count =>
    have hdir := h.quiet (by simp [hp, pinsIdleIn])
    rw [tick_count hp]
    exact .of_released (by simpa using hdir) (by simpa using hout) (by simp) (by simp [inRowLoop])
      (by simpa [hp] using hbusy)
  | respond =>
    have hdir := h.quiet (by simp [hp, pinsIdleIn])
    rw [tick_respond hp]
    exact .of_released (by simpa using hdir) (by simpa using hout) (by simp) (by simp [inRowLoop]) (by simp)

/-- An idle sequencer with every row released. -/
theorem SequencerOk.of_idle {s : State} (hdir : s.rowDir = List.replicate s.cfg.rows false)
    (hout : s.rowOut = List.replicate s.cfg.rows false) (hphase : s.phase = .idle) (hbusy : s.busy = false) :
    SequencerOk s :=
  .of_released hdir hout (by simp [hphase]) (by simp [hphase, inRowLoop]) (by simp [hphase, hbusy])

end Sys2Proof.Machine

end SequencerInvariant

/-! ## The invariant of the block (10_state.md section 8) -/

section Invariant

namespace Sys2Proof.Machine

theorem Inv.storeOk {s : State} (h : Inv s) (hi : s.inited = true) : StoreOk s :=
  ⟨h.store, h.counter hi, readableBits_iff.mpr (h.upperBits hi), h.selWired⟩

theorem Inv.sequencerOk {s : State} (h : Inv s) : SequencerOk s :=
  ⟨h.dirLength, h.oneRow, h.outLow, h.quiet, h.driven, h.rowIndex, h.busyPhase⟩

theorem Inv.phase_of_not_busy {s : State} (h : Inv s) (hb : s.busy = false) : s.phase = .idle := by
  by_contra hp
  simp [h.busyPhase.mpr hp] at hb

theorem Inv.phase_of_busy {s : State} (h : Inv s) (hb : s.busy = true) : s.phase ≠ .idle := h.busyPhase.mp hb

/-- The invariant of an initialised block, from its two parts. -/
theorem Inv.of_initialised {s : State} (hc : s.cfg.wellFormed = true) (hs : StoreOk s) (hq : SequencerOk s)
    (hrun : s.phase ≠ .idle → s.inited = true ∧ s.fault = none)
    (hpub : s.cfg.policy = .b → s.phase = .idle ∨ s.phase = .respond → s.cnt = 0 → s.mem.bank0 = s.mem.bank1) :
    Inv s where
  legal := hc
  store := hs.shape
  dirLength := hq.dirLength
  oneRow := hq.oneRow
  outLow := hq.outLow
  quiet := hq.quiet
  driven := hq.driven
  rowIndex := hq.rowIndex
  busyPhase := hq.busyPhase
  running := hrun
  counter _ := hs.counter
  upperBits _ := readableBits_iff.mp hs.readable
  selWired := hs.selWired
  published hp _ := hpub hp

/-- The invariant says nothing of the ports, and of FAULT only while a scan runs. -/
theorem Inv.congr {s t : State} (h : Inv s) (e : sameRegisters s t) (hf : s.phase ≠ .idle → t.fault = none) :
    Inv t := by
  obtain ⟨_, _, _, _, _, _, _, _, _, _, _, _, _, _, _, _⟩ := t
  obtain ⟨rfl, rfl, rfl, rfl, rfl, rfl, rfl, rfl, rfl, rfl⟩ := e
  exact { h with running := fun hp => ⟨(h.running hp).1, hf hp⟩ }

theorem inv_resetWith {c : Config} (hc : c.wellFormed = true) : Inv (State.resetWith c) where
  legal := hc
  store := resetWith_mem_wf c
  dirLength := by simp [State.resetWith]
  oneRow := by simp [State.resetWith, List.count_replicate]
  outLow := rfl
  quiet _ := rfl
  driven := by simp [State.resetWith]
  rowIndex := by simp [State.resetWith, inRowLoop]
  busyPhase := by simp [State.resetWith]
  running := by simp [State.resetWith]
  counter := by simp [State.resetWith]
  upperBits := by simp [State.resetWith]
  selWired _ := rfl
  published _ := by simp [State.resetWith]

/-- A reset edge restores the invariant, from any phase. -/
theorem inv_hardwareReset {s : State} (hc : s.cfg.wellFormed = true) : Inv (hardwareReset s) :=
  (inv_resetWith hc).congr (sameRegisters_refl (State.resetWith s.cfg)) fun _ => rfl

theorem Inv.initBody {s : State} (h : Inv s) (hb : s.busy = false) : Inv (initBody s) := by
  have hphase := h.phase_of_not_busy hb
  rw [initBody_eq]
  refine .of_initialised h.legal ?store (.of_idle rfl rfl hphase rfl) (absurd hphase) (fun _ _ _ => rfl)
  case store =>
    exact ⟨clearedMemory_wf _, Nat.le_refl _, readableBits_clearedMemory _ _,
      fun (hp : s.cfg.policy = .b) => by simpa [hp] using h.selWired hp⟩

theorem Inv.scanBody {s : State} (h : Inv s) (hi : s.inited = true) : Inv (scanBody s) :=
  .of_initialised (by simpa using h.legal) (h.storeOk hi).scanBody (.of_idle (by simp) (by simp) (by simp) (by simp))
    (by simp) fun hp _ hz => scanBody_published (by simpa using hp) hz

/-- The phases after which a command is complete are entered from COUNT, which publishes, and RESPOND, which keeps the
store. -/
theorem tick_published {s : State} (h : Inv s) (hrun : s.phase ≠ .idle) (hpol : s.cfg.policy = .b)
    (hdone : (tick s).phase = .idle ∨ (tick s).phase = .respond) (hz : (tick s).cnt = 0) :
    (tick s).mem.bank0 = (tick s).mem.bank1 := by
  obtain ⟨hi, _⟩ := h.running hrun
  cases hp : s.phase with
  | idle => exact absurd hp hrun
  | swap => simp [tick_swap hp] at hdone
  | deselect => simp [tick_deselect hp] at hdone
  | select => simp [tick_select hp] at hdone
  | settle => simp [tick_settle hp] at hdone
  | sample =>
    by_cases hr : s.ridx.toNat + 1 < s.cfg.rows
    · simp [tick_sample_next hp hr] at hdone
    · simp [tick_sample_last hp hr] at hdone
  | finalDeselect => simp [tick_finalDeselect hp] at hdone
  | count =>
    rw [tick_count hp] at hz ⊢
    exact policyEnd_published hpol hz
  | respond =>
    rw [tick_respond hp] at hz ⊢
    exact h.published hpol hi (.inr hp) hz

theorem Inv.tick {s : State} (h : Inv s) (hb : s.busy = true) : Inv (tick s) := by
  have hrun := h.phase_of_busy hb
  have hready := h.running hrun
  exact .of_initialised (by simpa using h.legal) (h.storeOk hready.1).tick (h.sequencerOk.tick h.legal)
    (fun _ => by simpa using hready) fun hp hd hz => tick_published h hrun (by simpa using hp) hd hz

/-- Settles O16. -/
theorem invariantHoldsAfterReset : Obligations.InvariantHoldsAfterReset :=
  ⟨inv_resetWith (by decide), fun _ hc => inv_resetWith hc⟩

/-- Settles O15, one lemma for each transition of the block. -/
theorem everyStepKeepsTheInvariant : Obligations.EveryStepKeepsTheInvariant := by
  intro s t h hstep
  have taken : ∀ rest : List Input, Inv { s with inputs := rest } := fun rest =>
    h.congr (sameRegisters_refl s) fun hp => (h.running hp).2
  cases transition_of_step hstep with
  | resetEdge rest => exact inv_hardwareReset h.legal
  | nextPhase hb => exact h.tick hb
  | idleCycle _ hb => exact h.congr (sameRegisters_refl s) fun hp => (h.running hp).2
  | answered w rest t _ hb ht =>
    exact (taken rest).congr ht.sameRegisters fun hp => absurd (h.phase_of_not_busy hb) hp
  | initialised rest _ hb => exact (taken rest).initBody hb
  | scanned rest _ _ _ hi => exact (taken rest).scanBody hi

/-- Settles O29: a scan counts down once, from at most DEBOUNCE. -/
theorem counterBelowThresholdAfterScan : Obligations.CounterBelowThresholdAfterScan := by
  intro s t h hf hi ht
  rw [exec_scan hf hi] at ht
  cases ht
  exact (h.storeOk hi).scanBody_cnt

end Sys2Proof.Machine

end Invariant

/-! ## The flags of a cleared store (10_state.md R32) -/

section ClearedFlags

namespace Sys2Proof.Machine

theorem clearedMemory_read {rows r : Nat} (b : Bank) (h : r < rows) : (clearedMemory rows).read b r = 0 := by
  cases b <;> simp [Memory.read, clearedMemory, h]

/-- A cleared store shows no difference between the banks. -/
theorem modifiedA_of_cleared {s : State} (h : s.mem = clearedMemory s.cfg.rows) : modifiedA s = false := by
  unfold modifiedA
  split
  · rw [List.any_eq_false]
    intro r hr
    rw [List.mem_range] at hr
    simp [h, clearedMemory_read _ hr]
  · rfl

/-- No row of a cleared store has two bits set. -/
theorem ghost_of_cleared {s : State} (h : s.mem = clearedMemory s.cfg.rows) : ghost s = false := by
  unfold ghost
  rw [List.any_eq_false]
  intro r hr
  rw [List.mem_range] at hr
  simp [ghostInRow, committedWord, h, clearedMemory_read _ hr, fewerThanTwoBits]

/-- Settles O18: INIT clears the store and sets CNT to DEBOUNCE. -/
theorem modifiedAndGhostAfterInit : Obligations.ModifiedAndGhostAfterInit := by
  intro s t hf hi ht
  rw [exec_init hf hi, initBody_eq] at ht
  cases ht
  refine ⟨?_, ghost_of_cleared rfl⟩
  cases hp : s.cfg.policy with
  | a => simp [modified, hp, modifiedA_of_cleared]
  | b => simp [modified, hp, modifiedB]

end Sys2Proof.Machine

end ClearedFlags

/-! ## The row-word store (20_memory.md R67, R74, R76) -/

section RowWordStore

namespace Sys2Proof.Machine

/-! ### The configuration -/

/-- Settles O11, by the transitions of the block. -/
theorem noStepChangesTheConfiguration : Obligations.NoStepChangesTheConfiguration := by
  intro s t h
  cases transition_of_step h with
  | resetEdge rest => exact hardwareReset_cfg { s with inputs := rest }
  | nextPhase => exact tick_cfg s
  | idleCycle => exact clearResponse_cfg s
  | answered w rest _ _ _ ht =>
    obtain ⟨hc, _⟩ := ht.sameRegisters
    exact hc
  | initialised rest => rw [initBody_eq]
  | scanned rest => exact scanBody_cfg { s with inputs := rest }

/-! ### The write target after a scan -/

/-- The stages of a scan see the store, the counter, SEL and the configuration alone. -/
theorem stagePrefix_congr (words : List RowWord) (n : Nat) {s t : State} (h : sameStore s t) :
    sameStore (stagePrefix words n s) (stagePrefix words n t) := by
  induction n with
  | zero => exact h
  | succ n ih =>
    obtain ⟨hm, hn⟩ := policyStage_congr n (words.getD n 0) ih
    obtain ⟨hc, hs, _, _⟩ := h
    simp only [stagePrefix_succ]
    exact ⟨by simpa using hc, by simpa using hs, hm, hn⟩

/-- The row loop of a scan leaves the store, the counter and SEL as PolicyStart and the policy stages of the words read
leave them (41_scan_sequencer.md R144). -/
theorem scannedRows_sameStore {s : State} (h : 1 ≤ s.cfg.rows) :
    sameStore (stageRows (scanWords s) (policyStart s)) (scannedRows s) := by
  have hstart : sameStore (policyStart s) (policyStart (acceptScan s)) := by
    simp only [policyStart_eq]
    exact ⟨rfl, rfl, rfl, rfl⟩
  have hwords : scanWords (policyStart (acceptScan s)) = scanWords s :=
    scanWords_congr (by simp) (by simp) (by simp)
  have hrows := allRowSteps_spec (policyStart (acceptScan s)) (by simpa using h)
  obtain ⟨_, hs, hm, hn⟩ := stagePrefix_congr (scanWords s) s.cfg.rows hstart
  have hmem := hrows.mem
  have hcnt := hrows.cnt
  have hsel := hrows.sel
  simp only [policyStart_cfg, acceptScan_cfg, Nat.sub_add_cancel h, hwords] at hmem hcnt hsel
  rw [stageRows_eq_stagePrefix, scanWords_length]
  refine ⟨by simp, ?_, hmem.trans hm, hcnt.trans hn⟩
  exact hsel.trans (by simpa using hs)

/-- PolicyEnd keeps the write target: the copy of POLICY B goes into the other bank (43_debounce_integrator.md R182). -/
theorem policyEnd_bank_writeTarget (s : State) :
    (policyEnd s).mem.bank (writeTarget s) = s.mem.bank (writeTarget s) := by
  cases hp : s.cfg.policy with
  | a => rw [policyEnd_a hp, countDown_eq]
  | b =>
    rcases policyEnd_mem_cases s with e | e <;> rw [e]
    rw [writeTarget_b hp]
    exact Memory.bank_setBank_ne _ _ (by decide)

/-- The row loop fills the write target with the words that the scan reads. -/
theorem scannedRows_bank_writeTarget {s : State} (hr : 1 ≤ s.cfg.rows) (hw : s.mem.wf s.cfg.rows = true) :
    (scannedRows s).mem.bank (writeTarget (scannedRows s)) = scanWords s := by
  obtain ⟨_, hs, hm, _⟩ := scannedRows_sameStore hr
  obtain ⟨_, ht, _⟩ := roles_congr (s := policyStart s) (t := scannedRows s) (by simp) (by simpa using hs)
  have hlength : ((policyStart s).mem.bank (writeTarget (policyStart s))).length = (scanWords s).length := by
    simpa using Memory.wf_length hw _
  rw [ht, hm, stageRows_spec _ _ hlength]
  exact Memory.bank_setBank _ _ _

/-- Settles O25: the row loop fills the write target, and PolicyEnd keeps it. -/
theorem writeTargetHoldsTheReads : Obligations.WriteTargetHoldsTheReads := by
  intro s t hc hw hf hi ht
  rw [exec_scan hf hi] at ht
  cases ht
  obtain ⟨hpos, _⟩ := Config.rows_bounds hc
  obtain ⟨hcfg, hsel, hm, _⟩ := scanBody_sameStore s
  obtain ⟨_, htarget, _⟩ := roles_congr (hcfg.trans (policyEnd_cfg _)) (hsel.trans (policyEnd_sel _))
  rw [htarget, hm, policyEnd_bank_writeTarget, scannedRows_bank_writeTarget hpos hw]

/-! ### The answers of the commands that only read -/

/-- A command that only reads and leaves FAULT None wrote the response and the sink alone (44_accessors.md R205). -/
theorem exec_reading_without_fault {s t : State} {i : Instr} (hi : i ≠ .init) (hs : i ≠ .scan)
    (h : exec i s = .next t) (hf : t.fault = none) : t = { s with rsp := t.rsp, sink := t.sink } := by
  rw [exec_eq_runCommand] at h
  cases h
  rcases runCommand_cases i (commandBody i) s with ⟨hne, e⟩ | ⟨k, _, _, e⟩ | ⟨hnone, _, e⟩ <;> rw [e] at hf ⊢
  · exact absurd hf hne
  · simp at hf
  · have hports := onlyPortsDiffer_commandBody hi hs s
    unfold onlyPortsDiffer at hports
    rwa [hf, ← hnone] at hports

/-- What a command that only reads answers does not depend on what stands on the response port or in the sink. -/
theorem runCommand_rsp_of_ports {s t : State} {j : Instr} (hj : j ≠ .init) (hs : j ≠ .scan)
    (ht : t = { s with rsp := t.rsp, sink := t.sink }) :
    (runCommand j (commandBody j) t).rsp = (runCommand j (commandBody j) s).rsp := by
  have hfault : t.fault = s.fault := by rw [ht]
  have hchecks : firstFault j t = firstFault j s := by rw [ht]; rfl
  cases hf : s.fault with
  | some f => rw [runCommand_sticky hf, runCommand_sticky (hfault.trans hf), stickyFault_rsp, stickyFault_rsp]
  | none =>
    cases hk : firstFault j s with
    | some k =>
      rw [runCommand_raises hf hk, runCommand_raises (hfault.trans hf) (hchecks.trans hk), raiseFault_rsp,
        raiseFault_rsp]
    | none =>
      rw [runCommand_passes hf hk, runCommand_passes (hfault.trans hf) (hchecks.trans hk), ht]
      cases j with
      | init => exact absurd rfl hj
      | scan => exact absurd rfl hs
      | isModified | isOn | getRow | keyCount | hasGhost | printDebug => rfl

/-- Settles O47: the first command wrote the ports alone, and the second does not read them. -/
theorem accessorsDoNotDisturbEachOther : Obligations.AccessorsDoNotDisturbEachOther := by
  intro s t i j hi his hj hjs h hf
  exact ⟨_, _, exec_eq_runCommand j s, exec_eq_runCommand j t,
    runCommand_rsp_of_ports hj hjs (exec_reading_without_fault hi his h hf)⟩

end Sys2Proof.Machine

end RowWordStore

/-! ## The command words (30_encoding.md R91 to R93, R96, R98) -/

section CommandWords

namespace Sys2Proof

/-! ### The fields of a word -/

@[simp] theorem opField_assemble (op : BitVec 4) (row : RowIndex) (col : ColIndex) :
    opField (assemble op row col) = op := by
  apply BitVec.eq_of_getLsbD_eq
  intro k hk
  interval_cases k <;> simp [assemble, opField]

@[simp] theorem rowField_assemble (op : BitVec 4) (row : RowIndex) (col : ColIndex) :
    rowField (assemble op row col) = row := by
  apply BitVec.eq_of_getLsbD_eq
  intro k hk
  interval_cases k <;> simp [assemble, rowField]

@[simp] theorem colField_assemble (op : BitVec 4) (row : RowIndex) (col : ColIndex) :
    colField (assemble op row col) = col := by
  apply BitVec.eq_of_getLsbD_eq
  intro k hk
  interval_cases k <;> simp [assemble, colField]

/-- Two words are the same when their three fields are. -/
theorem word_eq_iff_fields {v w : CommandWord} :
    v = w ↔ opField v = opField w ∧ rowField v = rowField w ∧ colField v = colField w := by
  constructor
  · rintro rfl
    exact ⟨rfl, rfl, rfl⟩
  · rintro ⟨ho, hr, hc⟩
    rw [← assemble_fields v, ho, hr, hc, assemble_fields]

@[simp] theorem opField_and (v w : CommandWord) : opField (v &&& w) = opField v &&& opField w :=
  BitVec.extractLsb'_and

@[simp] theorem rowField_and (v w : CommandWord) : rowField (v &&& w) = rowField v &&& rowField w :=
  BitVec.extractLsb'_and

@[simp] theorem colField_and (v w : CommandWord) : colField (v &&& w) = colField v &&& colField w :=
  BitVec.extractLsb'_and

/-! ### Decoding and encoding -/

@[simp] theorem decodeBare_assemble_zero (i : Instr) (op : BitVec 4) :
    decodeBare i (assemble op 0#8 0#4) = .command i := by
  simp [decodeBare]

/-- The decoder undoes the encoder, for the commands of the board. -/
theorem decode_encode {g : Bool} {i : Instr} (h : i.wellFormed g = true) : decode g (encode i) = .command i := by
  cases i with
  | hasGhost =>
    have hg : g = true := h
    simp [encode, decode, hg]
  | init | scan | isModified | isOn | getRow | keyCount | printDebug => simp [encode, decode]

/-- The decoder answers the commands of the board alone: without the detector, the word of HAS_GHOST is reserved
(30_encoding.md R98). -/
theorem wellFormed_of_decode {g : Bool} {w : CommandWord} {i : Instr} (h : decode g w = .command i) :
    i.wellFormed g = true := by
  cases i with
  | hasGhost =>
    cases g with
    | true => rfl
    | false =>
      rw [← encode_of_decode h] at h
      simp [encode, decode] at h
  | init | scan | isModified | isOn | getRow | keyCount | printDebug => rfl

/-- Settles O1: an assembled word has the fields it was assembled from. -/
theorem decodeOfEncodeIsTheCommand : Obligations.DecodeOfEncodeIsTheCommand := fun _ _ => decode_encode

/-- Settles O2: the fields of a word make up the word. -/
theorem decodedWordIsItsEncoding : Obligations.DecodedWordIsItsEncoding :=
  fun _ _ _ h => ⟨encode_of_decode h, wellFormed_of_decode h⟩

/-- Settles O4: each written word of a command is its encoding, and the others are reserved. -/
theorem writtenWordsDecode : Obligations.WrittenWordsDecode :=
  ⟨decode_encode (i := .init) rfl, decode_encode (i := .scan) rfl, decode_encode (i := .isModified) rfl,
    decode_encode (i := .isOn 2 7) rfl, decode_encode (i := .isOn 254 15) rfl, decode_encode (i := .getRow 5) rfl,
    decode_encode (i := .keyCount) rfl, decode_encode (i := .hasGhost) rfl, decode_encode (i := .printDebug) rfl,
    by decide, by decide, by decide⟩

/-! ### The opcode map -/

/-- A row of the opcode map is selected when each field of the word, under that field of the mask, is that field of the
pattern. -/
theorem OpcodeRow.selectedBy_eq (g : Bool) (w : CommandWord) (e : OpcodeRow) :
    e.selectedBy g w =
      (decide (opField w &&& opField e.mask = opField e.pattern ∧ rowField w &&& rowField e.mask = rowField e.pattern ∧
        colField w &&& colField e.mask = colField e.pattern) && (!e.needsGhost || g)) := by
  have hfields := word_eq_iff_fields (v := w &&& e.mask) (w := e.pattern)
  simp only [opField_and, rowField_and, colField_and] at hfields
  simp only [OpcodeRow.selectedBy, ← hfields]
  rfl

/-- The row of the opcode map for an operation without operands: its mask is the whole word. -/
def bareRow (mnemonic : String) (op : BitVec 4) (needsGhost : Bool) : OpcodeRow :=
  { mnemonic := mnemonic, pattern := assemble op 0 0, mask := assemble (.allOnes 4) (.allOnes 8) (.allOnes 4),
    needsGhost := needsGhost }

/-- The row of IS_ON: its mask leaves both operand fields free. -/
def isOnRow : OpcodeRow :=
  { mnemonic := "IS_ON", pattern := assemble 4 0 0, mask := assemble (.allOnes 4) 0 0, needsGhost := false }

/-- The row of GET_ROW: its mask leaves the row operand free. -/
def getRowRow : OpcodeRow :=
  { mnemonic := "GET_ROW", pattern := assemble 5 0 0, mask := assemble (.allOnes 4) 0 (.allOnes 4), needsGhost := false }

theorem opcodeMap_eq :
    opcodeMap =
      [bareRow "INIT" 1 false, bareRow "SCAN" 2 false, bareRow "IS_MODIFIED" 3 false, isOnRow, getRowRow,
        bareRow "KEY_COUNT" 6 false, bareRow "HAS_GHOST" 7 true, bareRow "PRINT_DEBUG" 8 false] := by
  decide

@[simp] theorem bareRow_mnemonic (m : String) (op : BitVec 4) (n : Bool) : (bareRow m op n).mnemonic = m := rfl

@[simp] theorem isOnRow_mnemonic : isOnRow.mnemonic = "IS_ON" := rfl

@[simp] theorem getRowRow_mnemonic : getRowRow.mnemonic = "GET_ROW" := rfl

@[simp] theorem bareRow_selectedBy (g : Bool) (w : CommandWord) (m : String) (op : BitVec 4) (n : Bool) :
    (bareRow m op n).selectedBy g w =
      (decide (opField w = op ∧ rowField w = 0 ∧ colField w = 0) && (!n || g)) := by
  simp [OpcodeRow.selectedBy_eq, bareRow, -BitVec.reduceAllOnes]

@[simp] theorem isOnRow_selectedBy (g : Bool) (w : CommandWord) :
    isOnRow.selectedBy g w = decide (opField w = 4) := by
  simp [OpcodeRow.selectedBy_eq, isOnRow, -BitVec.reduceAllOnes]

@[simp] theorem getRowRow_selectedBy (g : Bool) (w : CommandWord) :
    getRowRow.selectedBy g w = decide (opField w = 5 ∧ colField w = 0) := by
  simp [OpcodeRow.selectedBy_eq, getRowRow, -BitVec.reduceAllOnes]

/-- The word of a command of the board selects the row of that command and no other. -/
theorem selectedRows_encode {g : Bool} {i : Instr} (h : i.wellFormed g = true) :
    (opcodeMap.filter (fun e => e.selectedBy g (encode i))).map (fun e => e.mnemonic) = [i.mnemonic] := by
  cases i with
  | hasGhost =>
    have hg : g = true := h
    simp [opcodeMap_eq, encode, Instr.mnemonic, hg]
  | init | scan | isModified | isOn | getRow | keyCount | printDebug => simp [opcodeMap_eq, encode, Instr.mnemonic]

/-- The only word that selects the row of an operation without operands is that of its command. -/
theorem exists_encode_of_bareRow {g n : Bool} {w : CommandWord} {m : String} {op : BitVec 4} (i : Instr)
    (hi : encode i = assemble op 0 0) (hboard : (!n || g) = true → i.wellFormed g = true)
    (hw : (bareRow m op n).selectedBy g w = true) : ∃ j : Instr, j.wellFormed g = true ∧ encode j = w := by
  rw [bareRow_selectedBy, Bool.and_eq_true, decide_eq_true_eq] at hw
  obtain ⟨⟨ho, hr, hc⟩, hn⟩ := hw
  exact ⟨i, hboard hn, hi.trans (assemble_eq_of_fields (congrArg BitVec.toNat ho) hr hc)⟩

/-- A word that selects a row of the opcode map is the word of a command of the board. -/
theorem exists_encode_of_selectedBy {g : Bool} {w : CommandWord} {e : OpcodeRow} (he : e ∈ opcodeMap)
    (hw : e.selectedBy g w = true) : ∃ i : Instr, i.wellFormed g = true ∧ encode i = w := by
  rw [opcodeMap_eq] at he
  simp only [List.mem_cons, List.not_mem_nil, or_false] at he
  rcases he with rfl | rfl | rfl | rfl | rfl | rfl | rfl | rfl
  · exact exists_encode_of_bareRow .init rfl (fun _ => rfl) hw
  · exact exists_encode_of_bareRow .scan rfl (fun _ => rfl) hw
  · exact exists_encode_of_bareRow .isModified rfl (fun _ => rfl) hw
  · have ho : opField w = 4 := by simpa using hw
    exact ⟨.isOn (rowField w) (colField w), rfl, assemble_eq_of_fields (congrArg BitVec.toNat ho) rfl rfl⟩
  · have hoc : opField w = 5 ∧ colField w = 0 := by simpa using hw
    obtain ⟨ho, hc⟩ := hoc
    exact ⟨.getRow (rowField w), rfl, assemble_eq_of_fields (congrArg BitVec.toNat ho) rfl hc⟩
  · exact exists_encode_of_bareRow .keyCount rfl (fun _ => rfl) hw
  · exact exists_encode_of_bareRow .hasGhost rfl id hw
  · exact exists_encode_of_bareRow .printDebug rfl (fun _ => rfl) hw

/-- Settles O3: a decoded word is the word of its command, and a row that a word selects gives it a command. -/
theorem decoderFollowsTheOpcodeMap : Obligations.DecoderFollowsTheOpcodeMap := by
  intro g w
  cases hd : decode g w with
  | command i =>
    have hrows := selectedRows_encode (wellFormed_of_decode hd)
    rwa [encode_of_decode hd] at hrows
  | reserved why =>
    have hnone : opcodeMap.filter (fun e => e.selectedBy g w) = [] := by
      rw [List.filter_eq_nil_iff]
      intro e he hsel
      obtain ⟨i, hboard, rfl⟩ := exists_encode_of_selectedBy he hsel
      rw [decode_encode hboard] at hd
      cases hd
    rw [hnone]
    rfl

end Sys2Proof

end CommandWords

/-! ## A presented word (30_encoding.md R95, R99) -/

section PresentedWord

namespace Sys2Proof.Machine

/-! ### The word is accepted, or it waits -/

/-- An idle sequencer takes the presented word off the port and accepts it. -/
theorem step_of_accepted {s : State} {w : CommandWord} {rest : List Input} (hin : s.inputs = .command w :: rest)
    (hb : s.busy = false) : step s = acceptWord w { s with inputs := rest } := by
  simp [step, hin, hb]

/-- A running sequencer makes its next transition. -/
theorem step_of_waiting {s : State} {w : CommandWord} {rest : List Input} (hin : s.inputs = .command w :: rest)
    (hb : s.busy = true) : step s = .next (tick s) := by
  simp [step, hin, hb]

theorem acceptWord_command {s : State} {w : CommandWord} {i : Instr} (h : decode s.cfg.ghostEn w = .command i) :
    acceptWord w s = exec i s := by
  simp [acceptWord, h]

theorem acceptWord_reserved {s : State} {w : CommandWord} {why : Reserved}
    (h : decode s.cfg.ghostEn w = .reserved why) : acceptWord w s = .next (refuseReserved w s) := by
  simp [acceptWord, h]

/-- Settles O5: the word is accepted, and the board has the command it decodes to. -/
theorem stepRunsTheDecodedCommand : Obligations.StepRunsTheDecodedCommand := by
  intro s w rest i hin hb hd
  refine ⟨wellFormed_of_decode hd, ?_⟩
  rw [step_of_accepted hin hb]
  exact acceptWord_command (s := { s with inputs := rest }) hd

@[simp] theorem stageSample_inputs (s : State) : (stageSample s).inputs = s.inputs := by simp [stageSample, readCols]
@[simp] theorem stageSample_sink (s : State) : (stageSample s).sink = s.sink := by simp [stageSample, readCols]

/-- No phase takes a word off the port or writes the diagnostic sink (41_scan_sequencer.md R145). -/
theorem tick_keeps_ports (s : State) : (tick s).inputs = s.inputs ∧ (tick s).sink = s.sink := by
  cases hp : s.phase with
  | idle => simp [tick, hp]
  | swap => simp [tick_swap hp]
  | deselect => simp [tick_deselect hp]
  | select => simp [tick_select hp]
  | settle => simp [tick_settle hp]
  | sample =>
    by_cases hr : s.ridx.toNat + 1 < s.cfg.rows
    · simp [tick_sample_next hp hr]
    · simp [tick_sample_last hp hr]
  | finalDeselect => simp [tick_finalDeselect hp]
  | count => simp [tick_count hp]
  | respond => simp [tick_respond hp]

/-- Settles O8: the step is a transition of the sequencer, which leaves the port alone. -/
theorem commandWaitsWhileBusy : Obligations.CommandWaitsWhileBusy := by
  intro s w rest hin hb
  obtain ⟨hinputs, hsink⟩ := tick_keeps_ports s
  exact ⟨tick s, step_of_waiting hin hb, rfl, hinputs.trans hin, tick_fault s, tick_cfg s, tick_inited s, hsink⟩

/-! ### The checks on an accepted word -/

/-- Check (3) for INIT and for every other command. -/
theorem initialisationFault_eq (i : Instr) (s : State) :
    initialisationFault i s =
      if i ≠ .init ∧ s.inited = false then some .notInitialised
      else if i = .init ∧ s.inited = true then some .initRepeated
      else none := by
  by_cases hi : i = .init
  · simp [hi, initialisationFault]
  · cases h : s.inited <;> simp [initialisationFault_of_ne hi, hi, h]

theorem rowFault_eq (i : Instr) (s : State) :
    rowFault i s = if (rowOperand i).any (fun row => s.cfg.rows ≤ row.toNat) then some .rowRange else none := by
  unfold rowFault
  cases rowOperand i <;> simp

theorem colFault_eq (i : Instr) (s : State) :
    colFault i s = if (colOperand i).any (fun col => s.cfg.cols ≤ col.toNat) then some .colRange else none := by
  unfold colFault
  cases colOperand i <;> simp

/-- The checks (3) to (5) on a command of the board, in their order. -/
theorem firstFault_eq {i : Instr} {s : State} (h : i.wellFormed s.cfg.ghostEn = true) :
    firstFault i s =
      if i ≠ .init ∧ s.inited = false then some .notInitialised
      else if i = .init ∧ s.inited = true then some .initRepeated
      else if (rowOperand i).any (fun row => s.cfg.rows ≤ row.toNat) then some .rowRange
      else if (colOperand i).any (fun col => s.cfg.cols ≤ col.toNat) then some .colRange
      else none := by
  have hboard : reservedFault i s = none := by simp [reservedFault, h]
  rw [firstFault, hboard, initialisationFault_eq, rowFault_eq, colFault_eq]
  split_ifs <;> rfl

/-- The rule of every command answers with data and leaves FAULT alone. -/
theorem commandBody_answers (i : Instr) (s : State) :
    (commandBody i s).fault = s.fault ∧ ∃ d, (commandBody i s).rsp = some (.data d) := by
  cases i with
  | init => rw [commandBody, initBody_eq]; exact ⟨rfl, _, rfl⟩
  | scan => exact ⟨scanBody_fault s, _, by rw [commandBody, scanBody_eq, respond_rsp]⟩
  | isModified | isOn | getRow | keyCount | hasGhost | printDebug => exact ⟨rfl, _, rfl⟩

/-- A command of the board on a block without a fault raises the first of the checks (3) to (5) that fails, or executes
its rule. -/
theorem runCommand_in_order {i : Instr} {s : State} (hf : s.fault = none) (h : i.wellFormed s.cfg.ghostEn = true)
    (body : State → State) :
    if i ≠ .init ∧ s.inited = false then runCommand i body s = raiseFault .notInitialised (encode i) s
    else if i = .init ∧ s.inited = true then runCommand i body s = raiseFault .initRepeated (encode i) s
    else if (rowOperand i).any (fun row => s.cfg.rows ≤ row.toNat) then
      runCommand i body s = raiseFault .rowRange (encode i) s
    else if (colOperand i).any (fun col => s.cfg.cols ≤ col.toNat) then
      runCommand i body s = raiseFault .colRange (encode i) s
    else runCommand i body s = body s := by
  have hk := firstFault_eq h
  split_ifs at hk ⊢
  iterate 4 exact runCommand_raises hf hk body
  exact runCommand_passes hf hk body

theorem refuseReserved_sticky {s : State} {f : FaultRecord} (hf : s.fault = some f) (w : CommandWord) :
    refuseReserved w s = stickyFault s := by
  simp [refuseReserved, hf]

theorem refuseReserved_raises {s : State} (hf : s.fault = none) (w : CommandWord) :
    refuseReserved w s = raiseFault .illegalCommand w s := by
  simp [refuseReserved, hf]

/-- Every word accepted on a faulted block answers the sticky fault, reserved or not. -/
theorem acceptWord_sticky {s : State} {f : FaultRecord} (hf : s.fault = some f) (w : CommandWord) :
    acceptWord w s = .next (stickyFault s) := by
  cases hd : decode s.cfg.ghostEn w with
  | command i => rw [acceptWord_command hd, exec_eq_runCommand, runCommand_sticky hf]
  | reserved why => rw [acceptWord_reserved hd, refuseReserved_sticky hf]

/-- Settles O6: the sticky fault comes first, then the decoder, then the checks on its command. -/
theorem checksAreMadeInOrder : Obligations.ChecksAreMadeInOrder := by
  intro s w rest hin hb
  rw [step_of_accepted hin hb]
  by_cases hsome : s.fault.isSome = true
  · obtain ⟨f, hf⟩ := Option.isSome_iff_exists.mp hsome
    refine ⟨_, acceptWord_sticky (s := { s with inputs := rest }) hf w, ?_⟩
    rw [if_pos hsome]
    rfl
  have hf : s.fault = none := by simpa using hsome
  simp only [if_neg hsome]
  cases hd : decode s.cfg.ghostEn w with
  | reserved why =>
    refine ⟨_, acceptWord_reserved (s := { s with inputs := rest }) hd, ?_⟩
    rw [refuseReserved_raises (s := { s with inputs := rest }) hf]
    rfl
  | command i =>
    rw [acceptWord_command (s := { s with inputs := rest }) hd, exec_eq_runCommand]
    refine ⟨_, rfl, ?_⟩
    have horder := runCommand_in_order (s := { s with inputs := rest }) hf (wellFormed_of_decode hd) (commandBody i)
    obtain ⟨hfault, hdata⟩ := commandBody_answers i { s with inputs := rest }
    rw [encode_of_decode hd] at horder
    dsimp only
    split_ifs at horder ⊢
    iterate 4 exact horder
    rw [horder]
    exact ⟨hfault.trans hf, hdata⟩

end Sys2Proof.Machine

end PresentedWord

/-! ## The row and column driver (40_row_column_driver.md) -/

section RowColumnDriver

namespace Sys2Proof.Machine

/-! ### The row pins (R120, R121) -/

/-- What the pins are once row r is selected after every row was released: the output registers stay as R120 left them,
since SelectRow writes the 0 that is there already. -/
theorem selectRow_deselectAll (r : Nat) (s : State) :
    selectRow r (deselectAll s) =
      { s with
        rowDir := (List.replicate s.cfg.rows false).set r true
        rowOut := List.replicate s.cfg.rows false } := by
  simp [selectRow_eq, deselectAll]

/-- Settles O38: ROW_DIR is the one-hot list of row r, and ROW_OUT is all 0. -/
theorem selectDrivesOneRowAlone : Obligations.SelectDrivesOneRowAlone := by
  intro s r hr
  rw [selectRow_deselectAll]
  refine ⟨fun i hi => ⟨?_, ?_⟩, ?_, rfl⟩
  · by_cases hir : i = r
    · subst hir
      simp [hi]
    · simp [hir, Ne.symm hir, hi]
  · simp [hi]
  · rw [List.count_set (by simpa using hr)]
    simp [List.count_replicate]

/-! ### The column read (R123) -/

@[simp] theorem readCols_word (s : State) : (readCols s).1 = invertSample s.cfg (sampleAt s 0) := rfl

@[simp] theorem readCols_state (s : State) : (readCols s).2 = dropSamples 1 s := rfl

/-- The read width of a legal board is at most the width of a row word (00_scope.md R6, R9). -/
theorem readWidth_le_sixteen {c : Config} (h : c.wellFormed = true) : readWidth c ≤ 16 := by
  cases hm : c.readMode with
  | word =>
    have hcols : c.cols ≤ 16 := by
      simp only [Config.wellFormed, Bool.and_eq_true, decide_eq_true_eq] at h
      obtain ⟨⟨_, hmax⟩, _⟩ := h
      exact hmax
    simpa [readWidth, hm] using hcols
  | byte8 => simp [readWidth, hm]

/-- Bit by bit, the inversion complements the sample below W and clears it from W up. -/
theorem getLsbD_invertSample {c : Config} (h : c.wellFormed = true) (raw : BitVec 16) (i : Nat) :
    (invertSample c raw).getLsbD i = (decide (i < readWidth c) && !raw.getLsbD i) := by
  have hw := readWidth_le_sixteen h
  by_cases hi : i < readWidth c
  · have hi16 : i < 16 := by omega
    simp [invertSample, hi, hi16]
  · simp [invertSample, hi]

/-- Settles O37: the word is the inverted sample, and the read takes that sample and no more. -/
theorem readColsInvertsAtTheReadWidth : Obligations.ReadColsInvertsAtTheReadWidth := by
  intro s c hc
  refine ⟨?_, fun n => ?_, rfl⟩
  · simp [getLsbD_invertSample hc]
  · rw [readCols_state, sampleAt_dropSamples, Nat.add_comm]

end Sys2Proof.Machine

end RowColumnDriver

/-! ## The scan sequencer (41_scan_sequencer.md) -/

section ScanSequencer

namespace Sys2Proof.Machine

/-! ### A whole scan as one function (R144) -/

@[simp] theorem scannedRows_busy (s : State) : (scannedRows s).busy = true :=
  scannedRows_induction (p := fun u => u.busy = true) (by simp) (by simp)
@[simp] theorem scannedRows_inputs (s : State) : (scannedRows s).inputs = s.inputs :=
  scannedRows_induction (p := fun u => u.inputs = s.inputs) (by simp) (by simp)
@[simp] theorem scannedRows_sink (s : State) : (scannedRows s).sink = s.sink :=
  scannedRows_induction (p := fun u => u.sink = s.sink) (by simp) (by simp)

/-- The row loop takes ROWS samples, on a board of any height (R142). -/
theorem scannedRows_takes (s : State) :
    (scannedRows s).samples = s.samples.drop s.cfg.rows ∧
      (scannedRows s).draws = s.draws + (s.cfg.rows - s.samples.length) := by
  by_cases hpos : 1 ≤ s.cfg.rows
  · have hrows := allRowSteps_spec (policyStart (acceptScan s)) (by simpa using hpos)
    have hsamples := hrows.samples
    have hdraws := hrows.draws
    simp only [policyStart_cfg, acceptScan_cfg, Nat.sub_add_cancel hpos] at hsamples hdraws
    exact ⟨by simpa [scannedRows] using hsamples, by simpa [scannedRows] using hdraws⟩
  · have hzero : s.cfg.rows = 0 := by omega
    simp [scannedRows, hzero]

@[simp] theorem scannedRows_samples (s : State) : (scannedRows s).samples = s.samples.drop s.cfg.rows :=
  (scannedRows_takes s).1
@[simp] theorem scannedRows_draws (s : State) :
    (scannedRows s).draws = s.draws + (s.cfg.rows - s.samples.length) :=
  (scannedRows_takes s).2

/-- The row loop of a board with a row leaves RIDX at its last row (R141). -/
theorem scannedRows_ridx {s : State} (h : 1 ≤ s.cfg.rows) :
    (scannedRows s).ridx = BitVec.ofNat 8 (s.cfg.rows - 1) := by
  have hrows := allRowSteps_spec (policyStart (acceptScan s)) (by simpa using h)
  simpa [scannedRows] using hrows.ridx

@[simp] theorem scanBody_inputs (s : State) : (scanBody s).inputs = s.inputs := by simp [scanBody_eq]
@[simp] theorem scanBody_samples (s : State) : (scanBody s).samples = s.samples.drop s.cfg.rows := by simp [scanBody_eq]
@[simp] theorem scanBody_draws (s : State) :
    (scanBody s).draws = s.draws + (s.cfg.rows - s.samples.length) := by simp [scanBody_eq]
@[simp] theorem scanBody_rsp (s : State) : (scanBody s).rsp = some (.data statusSuccess) := by simp [scanBody_eq]
@[simp] theorem scanBody_sink (s : State) : (scanBody s).sink = s.sink := by simp [scanBody_eq]

theorem scanBody_ridx {s : State} (h : 1 ≤ s.cfg.rows) : (scanBody s).ridx = BitVec.ofNat 8 (s.cfg.rows - 1) := by
  simpa [scanBody_eq] using scannedRows_ridx h

/-- The row steps and pin writes of a scan leave no trace but the policy hooks and the samples taken (R144). -/
theorem scanBody_eq_collapsedScan {s : State} (h : 1 ≤ s.cfg.rows) : scanBody s = collapsedScan s := by
  have hloop := scannedRows_sameStore h
  obtain ⟨hmem, hcnt⟩ := policyEnd_congr hloop
  obtain ⟨_, hsel, _, _⟩ := hloop
  obtain ⟨_, hsel', hmem', hcnt'⟩ := scanBody_sameStore s
  apply State.ext
  case mem => exact hmem'.trans hmem
  case cnt => exact hcnt'.trans hcnt
  case sel => simpa [collapsedScan, collapsedScanWith, hsel] using hsel'
  case ridx => exact scanBody_ridx h
  all_goals simp [collapsedScan, collapsedScanWith]

/-- Settles O22. -/
theorem scanIsOneTransition : Obligations.ScanIsOneTransition := by
  intro s hc hf hi
  rw [exec_scan hf hi, scanBody_eq_collapsedScan (Config.rows_bounds hc).1]

/-- Settles O21, field by field of the state after the scan. -/
theorem scanCompletes : Obligations.ScanCompletes := by
  intro s hf hi
  refine ⟨scanBody s, exec_scan hf hi, ?_⟩
  simp [pinsIdle, statusSuccess, hf, hi]

/-! ### The phases of a scan (R145) -/

theorem ticks_add (m n : Nat) (s : State) : ticks (m + n) s = ticks n (ticks m s) := by
  induction m generalizing s with
  | zero => simp [ticks]
  | succ m ih => rw [Nat.succ_add]; exact ih (tick s)

theorem ticks_succ (n : Nat) (s : State) : ticks (n + 1) s = tick (ticks n s) := ticks_add n 1 s

/-- The sequencer before row r of a scan, where u is the state that the rows before it have left. -/
def rowEntry (r : Nat) (u : State) : State := setPhase .deselect (setRidx r u)

theorem tick_acceptScan (s : State) : tick (acceptScan s) = rowEntry 0 (policyStart (acceptScan s)) :=
  tick_swap rfl

/-- The state in which the phases of row r take its sample. -/
def rowSampling (r : Nat) (u : State) : State :=
  setPhase .sample (setPhase .settle (selectRow r (setPhase .select (deselectAll (rowEntry r u)))))

theorem rowSampling_ridx {r : Nat} (hr : r < 256) (u : State) : (rowSampling r u).ridx.toNat = r := by
  simpa [rowSampling, rowEntry] using hr

/-- DESELECT, SELECT and SETTLE of row r. -/
theorem ticks_rowEntry {r : Nat} (hr : r < 256) (u : State) : ticks 3 (rowEntry r u) = rowSampling r u := by
  have hdeselect : tick (rowEntry r u) = setPhase .select (deselectAll (rowEntry r u)) := tick_deselect rfl
  have hridx : (setPhase .select (deselectAll (rowEntry r u))).ridx.toNat = r := rowSampling_ridx hr u
  rw [ticks, ticks, ticks, ticks, hdeselect, tick_select (setPhase_phase _ _), hridx,
    tick_settle (setPhase_phase _ _), rowSampling]

/-- The sample of row r completes its RowStep (R142). -/
theorem stageSample_rowSampling {r : Nat} (hr : r < 256) (u : State) : stageSample (rowSampling r u) = rowStep u r := by
  rw [stageSample, rowSampling_ridx hr]
  rfl

/-- Four phases make one row step, and the loop test leads to the next row. -/
theorem ticks_row_next {r : Nat} {u : State} (hr : r < 256) (hnext : r + 1 < u.cfg.rows) :
    ticks 4 (rowEntry r u) = rowEntry (r + 1) (rowStep u r) := by
  have hridx := rowSampling_ridx hr u
  rw [ticks_succ, ticks_rowEntry hr, tick_sample_next rfl (by rwa [hridx]), hridx, stageSample_rowSampling hr, rowEntry]

/-- Four phases make the last row step, and the loop test leads out of the loop. -/
theorem ticks_row_last {r : Nat} {u : State} (hr : r < 256) (hlast : ¬ r + 1 < u.cfg.rows) :
    ticks 4 (rowEntry r u) = setPhase .finalDeselect (rowStep u r) := by
  have hridx := rowSampling_ridx hr u
  rw [ticks_succ, ticks_rowEntry hr, tick_sample_last rfl (by rwa [hridx]), stageSample_rowSampling hr]

theorem foldl_rowStep_cfg (u : State) (rows : List Nat) : (rows.foldl rowStep u).cfg = u.cfg :=
  List.foldlRecOn (motive := fun v => v.cfg = u.cfg) rows rowStep rfl fun v hv r _ => (rowStep_cfg v r).trans hv

/-- The phases of the first n rows are their row steps. -/
theorem ticks_rows {u : State} (hmax : u.cfg.rows ≤ 255) :
    ∀ n, n < u.cfg.rows → ticks (4 * n) (rowEntry 0 u) = rowEntry n ((List.range n).foldl rowStep u) := by
  intro n
  induction n with
  | zero => intro _; rfl
  | succ n ih =>
    intro hn
    rw [Nat.mul_succ, ticks_add, ih (by omega), ticks_row_next (by omega) (by rwa [foldl_rowStep_cfg]),
      List.range_succ, List.foldl_append, List.foldl_cons, List.foldl_nil]

/-- After SWAP and the four phases of every row, the row loop of the scan is complete. -/
theorem ticks_scannedRows {s : State} (hpos : 1 ≤ s.cfg.rows) (hmax : s.cfg.rows ≤ 255) :
    ticks (4 * s.cfg.rows + 1) (acceptScan s) = setPhase .finalDeselect (scannedRows s) := by
  obtain ⟨n, hn⟩ : ∃ n, s.cfg.rows = n + 1 := ⟨s.cfg.rows - 1, by omega⟩
  rw [ticks, scannedRows, hn, Nat.mul_succ, tick_acceptScan, ticks_add,
    ticks_rows (by simpa using hmax) n (by simp [hn]), ticks_row_last (by omega) (by simp [foldl_rowStep_cfg, hn]),
    List.range_succ, List.foldl_append, List.foldl_cons, List.foldl_nil]

/-- The state of a scan in its last phase, RESPOND (R141). -/
def responding (s : State) : State :=
  setPhase .respond (policyEnd (setPhase .count (deselectAll (setPhase .finalDeselect (scannedRows s)))))

theorem ticks_responding {s : State} (hpos : 1 ≤ s.cfg.rows) (hmax : s.cfg.rows ≤ 255) :
    ticks (4 * s.cfg.rows + 3) (acceptScan s) = responding s := by
  rw [ticks_succ, ticks_succ, ticks_scannedRows hpos hmax, tick_finalDeselect (setPhase_phase _ _),
    tick_count (setPhase_phase _ _), responding]

theorem tick_responding (s : State) : tick (responding s) = scanBody s := by
  rw [tick_respond rfl, responding, scanBody_eq]

/-- No phase raises BUSY (10_state.md R29). -/
theorem busy_of_busy_tick {s : State} (h : (tick s).busy = true) : s.busy = true := by
  cases hp : s.phase with
  | idle => simpa [tick, hp] using h
  | swap => simpa [tick_swap hp] using h
  | deselect => simpa [tick_deselect hp] using h
  | select => simpa [tick_select hp] using h
  | settle => simpa [tick_settle hp] using h
  | sample =>
    by_cases hr : s.ridx.toNat + 1 < s.cfg.rows
    · simpa [tick_sample_next hp hr] using h
    · simpa [tick_sample_last hp hr] using h
  | finalDeselect => simpa [tick_finalDeselect hp] using h
  | count => simpa [tick_count hp] using h
  | respond => simp [tick_respond hp] at h

theorem busy_of_busy_ticks {n : Nat} {s : State} (h : (ticks n s).busy = true) : s.busy = true := by
  induction n generalizing s with
  | zero => exact h
  | succ n ih => exact busy_of_busy_tick (ih h)

/-- Settles O23: the phases of the row loop are its row steps, and no phase raises BUSY, which is still 1 in the last
one. -/
theorem phasesMakeUpTheScan : Obligations.PhasesMakeUpTheScan := by
  intro s hc hf hi
  obtain ⟨hpos, hmax⟩ := Config.rows_bounds hc
  have hlast := ticks_responding hpos hmax
  constructor
  · rw [exec_scan hf hi, ticks_succ, hlast, tick_responding]
  · intro k hk
    have hsplit : 4 * s.cfg.rows + 3 = k + (4 * s.cfg.rows + 3 - k) := by omega
    rw [hsplit, ticks_add] at hlast
    exact busy_of_busy_ticks (n := 4 * s.cfg.rows + 3 - k) (by simp [hlast, responding])

/-- Without a reset edge a running sequencer makes its next transition, whether or not a word is presented. -/
theorem step_of_running {s : State} (hb : s.busy = true) (hreset : s.inputs.head? ≠ some .reset) :
    step s = .next (tick s) := by
  cases hin : s.inputs with
  | nil => simp [step, hin, hb]
  | cons i rest =>
    cases i with
    | command w => exact step_of_waiting hin hb
    | reset => simp [hin] at hreset

/-- Settles O24, one case for each phase, and for SAMPLE one for each outcome of the loop test. -/
theorem phasesFollowTheFixedOrder : Obligations.PhasesFollowTheFixedOrder := by
  intro s h hb hreset
  refine ⟨tick s, step_of_running hb hreset, ?_⟩
  cases hp : s.phase with
  | idle => exact absurd hp (h.phase_of_busy hb)
  | swap => simp [tick_swap hp]
  | deselect => simp [tick_deselect hp]
  | select => simp [tick_select hp]
  | settle => simp [tick_settle hp]
  | sample =>
    by_cases hr : s.ridx.toNat + 1 < s.cfg.rows
    · obtain ⟨_, hmax⟩ := Config.rows_bounds h.legal
      have hmod : (s.ridx.toNat + 1) % 256 = s.ridx.toNat + 1 := Nat.mod_eq_of_lt (by omega)
      simp [tick_sample_next hp hr, hr, hmod]
    · simp [tick_sample_last hp hr, hr]
  | finalDeselect => simp [tick_finalDeselect hp]
  | count => simp [tick_count hp]
  | respond => simp [tick_respond hp]

/-! ### INIT (R140) -/

theorem readSel_initBody (s : State) : readSel (initBody s) = .zero := by
  rw [initBody_eq]
  cases hp : s.cfg.policy <;> simp [readSel, hp]

/-- INIT passes its checks once only (30_encoding.md R99, 60_exceptions.md R247). -/
theorem firstFault_init_repeated {s : State} (h : s.inited = true) : firstFault .init s = some .initRepeated := by
  rw [firstFault_eq rfl]
  simp [h]

/-- Settles O17: the first INIT executes its rule, and a second one fails its check. -/
theorem initResult : Obligations.InitResult := by
  intro s hf
  constructor
  · intro hi
    refine ⟨initBody s, exec_init hf hi, readSel_initBody s, ?_⟩
    rw [initBody_eq]
    rfl
  · intro hi
    rw [exec_eq_runCommand, runCommand_raises hf (firstFault_init_repeated hi)]
    rfl

end Sys2Proof.Machine

end ScanSequencer

/-! ## The swap buffer and the debounce window (42_debounce_swap_buffer.md, 43_debounce_integrator.md) -/

section SwapBuffer

namespace Sys2Proof.Machine

/-! ### The roles of the banks (10_state.md R23) -/

theorem currentBank_a {s : State} (h : s.cfg.policy = .a) : currentBank s = s.sel := readSel_a h

theorem previousBank_a {s : State} (h : s.cfg.policy = .a) : previousBank s = s.sel.other := by
  rw [previousBank, readSel_a h]

/-- The write target depends on POLICY and SEL alone. -/
theorem writeTarget_congr {s t : State} (hc : t.cfg = s.cfg) (hs : t.sel = s.sel) : writeTarget t = writeTarget s := by
  obtain ⟨_, htarget, _⟩ := roles_congr hc hs
  exact htarget

/-- In an open debounce window PolicyStart does nothing (R160). -/
theorem policyStart_of_cnt_ne_zero {s : State} (h : s.cnt ≠ 0) : policyStart s = s := by
  rw [policyStart_eq, if_neg fun hstart => h hstart.2]

/-- Under POLICY A a scan inverts SEL exactly when it begins with CNT = 0 (R160). -/
theorem policyStart_sel_a {s : State} (h : s.cfg.policy = .a) :
    (policyStart s).sel = if s.cnt = 0 then s.sel.other else s.sel := by
  simp [policyStart_eq, h]

/-- Under POLICY A a scan that begins settled writes the bank that was `previous` (R160). -/
theorem writeTarget_policyStart_settled {s : State} (h : s.cfg.policy = .a) (hz : s.cnt = 0) :
    writeTarget (policyStart s) = s.sel.other := by
  rw [writeTarget_a (by simpa using h), policyStart_sel_a h, if_pos hz]

/-! ### SEL, the store and the counter after a scan -/

theorem policyStart_acceptScan_sel (s : State) : (policyStart (acceptScan s)).sel = (policyStart s).sel := by
  simp only [policyStart_eq]
  rfl

theorem scannedRows_sel (s : State) : (scannedRows s).sel = (policyStart s).sel :=
  scannedRows_induction (p := fun u => u.sel = (policyStart s).sel) (policyStart_acceptScan_sel s) (by simp)

/-- In a scan PolicyStart alone writes SEL (R160; 43_debounce_integrator.md R180). -/
theorem scanBody_sel (s : State) : (scanBody s).sel = (policyStart s).sel := by
  obtain ⟨_, hsel, _, _⟩ := scanBody_sameStore s
  rw [hsel, policyEnd_sel, scannedRows_sel]

/-- The bank that a scan writes is still the write target after it. -/
theorem scanBody_writeTarget (s : State) : writeTarget (scanBody s) = writeTarget (policyStart s) :=
  writeTarget_congr (by simp) (scanBody_sel s)

theorem scannedRows_writeTarget (s : State) : writeTarget (scannedRows s) = writeTarget (policyStart s) :=
  writeTarget_congr (by simp) (scannedRows_sel s)

/-- u has the write target b, and its other bank is as in s. -/
def keepsOtherBank (b : Bank) (s u : State) : Prop := writeTarget u = b ∧ u.mem.bank b.other = s.mem.bank b.other

/-- A row step writes its write target alone. -/
theorem keepsOtherBank.rowStep {b : Bank} {s u : State} (h : keepsOtherBank b s u) (r : Nat) :
    keepsOtherBank b s (rowStep u r) := by
  obtain ⟨rfl, hother⟩ := h
  obtain ⟨hm, _⟩ := rowStep_store u r
  refine ⟨writeTarget_congr (rowStep_cfg u r) (rowStep_sel u r), ?_⟩
  rw [hm, ← hother]
  rcases policyStage_cases r (invertSample u.cfg (sampleAt u 0)) u with ⟨_, e⟩ | ⟨_, e⟩ <;> rw [e]
  exact Memory.bank_other_setBank _ _ _

/-- The row loop leaves the bank that is not its write target as the scan found it, in a store of any form. -/
theorem scannedRows_bank_other (s : State) :
    (scannedRows s).mem.bank (writeTarget (policyStart s)).other = s.mem.bank (writeTarget (policyStart s)).other := by
  have hstart : keepsOtherBank (writeTarget (policyStart s)) s (policyStart (acceptScan s)) :=
    ⟨writeTarget_congr (by simp) (policyStart_acceptScan_sel s), by simp⟩
  obtain ⟨_, hkept⟩ := scannedRows_induction hstart fun _ r h => h.rowStep r
  exact hkept

/-- Under POLICY A a scan writes its write target alone (R161, R162). -/
theorem scanBody_bank_other_a {s : State} (h : s.cfg.policy = .a) :
    (scanBody s).mem.bank (writeTarget (policyStart s)).other = s.mem.bank (writeTarget (policyStart s)).other := by
  obtain ⟨_, _, hm, _⟩ := scanBody_sameStore s
  rw [hm, policyEnd_a (by simpa using h), countDown_eq, scannedRows_bank_other]

section ScanOnAStore

variable {s : State} (hc : s.cfg.wellFormed = true) (hw : s.mem.wf s.cfg.rows = true)

include hc hw

/-- After a scan its write target holds the words that it read (20_memory.md R76). -/
theorem scanBody_bank_target : (scanBody s).mem.bank (writeTarget (policyStart s)) = scanWords s := by
  obtain ⟨_, _, hm, _⟩ := scanBody_sameStore s
  obtain ⟨hpos, _⟩ := Config.rows_bounds hc
  rw [hm, ← scannedRows_writeTarget, policyEnd_bank_writeTarget, scannedRows_bank_writeTarget hpos hw]

/-- A scan leaves its other bank alone, but for the publishing of POLICY B when CNT is 0 at its end
(R161; 43_debounce_integrator.md R182). -/
theorem scanBody_bank_other :
    (scanBody s).mem.bank (writeTarget (policyStart s)).other =
      if s.cfg.policy = .b ∧ (scanBody s).cnt = 0 then scanWords s
      else s.mem.bank (writeTarget (policyStart s)).other := by
  cases hp : s.cfg.policy with
  | a => simpa using scanBody_bank_other_a hp
  | b =>
    have htarget : writeTarget (policyStart s) = .one := writeTarget_b (by simpa using hp)
    by_cases hz : (scanBody s).cnt = 0
    · have hpublished := scanBody_published hp hz
      have hreads := scanBody_bank_target hc hw
      rw [htarget] at hreads ⊢
      simpa [hz, Bank.other] using hpublished.trans hreads
    · obtain ⟨_, _, hm, hn⟩ := scanBody_sameStore s
      have hpol : (scannedRows s).cfg.policy = .b := by simpa using hp
      have hkept : (scanBody s).mem = (scannedRows s).mem := by
        rw [hn, policyEnd_b hpol] at hz
        rw [hm, policyEnd_b hpol]
        exact if_neg hz
      rw [hkept, scannedRows_bank_other, if_neg fun hend => hz hend.2]

/-- A scan whose words differ from its write target restarts the counter, and every scan counts down once
(R162; 43_debounce_integrator.md R187). -/
theorem scanBody_cnt :
    (scanBody s).cnt.toNat =
      (if scanWords s = s.mem.bank (writeTarget (policyStart s)) then s.cnt.toNat else s.cfg.debounce.toNat) - 1 := by
  obtain ⟨hpos, _⟩ := Config.rows_bounds hc
  obtain ⟨_, _, _, hn⟩ := scanBody_sameStore s
  obtain ⟨_, _, _, hrows⟩ := scannedRows_sameStore hpos
  have hlength : ((policyStart s).mem.bank (writeTarget (policyStart s))).length = (scanWords s).length := by
    simpa using Memory.wf_length hw _
  rw [hn, policyEnd_cnt, hrows, stageRows_spec _ _ hlength]
  simp only [policyStart_mem, policyStart_cnt, policyStart_cfg]
  split <;> rfl

end ScanOnAStore

/-- Settles O26: PolicyStart alone writes SEL, and the row loop writes the write target alone. -/
theorem swapExactlyWhenSettled : Obligations.SwapExactlyWhenSettled := by
  intro s t _ hp hf hi ht
  rw [exec_scan hf hi] at ht
  cases ht
  have hpol : (scanBody s).cfg.policy = .a := by simpa using hp
  have hkept := scanBody_bank_other_a hp
  rw [← scanBody_writeTarget, writeTarget_a hpol, ← previousBank_a hpol] at hkept
  exact ⟨(scanBody_sel s).trans (policyStart_sel_a hp), writeTarget_a hpol, currentBank_a hpol, previousBank_a hpol,
    hkept⟩

/-! ### MODIFIED (R163; 43_debounce_integrator.md R183) -/

/-- Modified_A: no debounce window is open, and the banks differ in some row (R163). -/
theorem modifiedA_iff {s : State} :
    modifiedA s = true ↔
      s.cnt = 0 ∧ ∃ r, r < s.cfg.rows ∧ s.mem.read (currentBank s) r ≠ s.mem.read (previousBank s) r := by
  unfold modifiedA
  by_cases hz : s.cnt = 0
  · simp [hz]
  · rw [if_neg hz]
    exact ⟨nofun, fun hm => absurd hm.1 hz⟩

/-- MODIFIED under POLICY A, on a store of ROWS words a bank: no window is open, and the banks differ. -/
theorem modified_iff_a {s : State} (hp : s.cfg.policy = .a) (hw : s.mem.wf s.cfg.rows = true) :
    modified s = true ↔ s.cnt = 0 ∧ s.mem.bank (currentBank s) ≠ s.mem.bank (previousBank s) := by
  rw [Memory.bank_ne_iff (Memory.wf_length hw _) (Memory.wf_length hw _), ← modifiedA_iff]
  simp [modified, hp]

theorem modified_iff_b {s : State} (hp : s.cfg.policy = .b) : modified s = true ↔ s.cnt = 0 := by
  simp [modified, modifiedB, hp]

/-- An initialised block finds no fault with IS_MODIFIED. -/
theorem firstFault_isModified {s : State} (h : s.inited = true) : firstFault .isModified s = none := by
  rw [firstFault_eq rfl]
  simp [h, rowOperand, colOperand]

/-- IS_MODIFIED answers MODIFIED (44_accessors.md R201). -/
theorem exec_isModified {s : State} (hf : s.fault = none) (hi : s.inited = true) :
    exec .isModified s = .next (respond (boolWord (modified s)) s) := by
  rw [exec_eq_runCommand, runCommand_passes hf (firstFault_isModified hi)]
  rfl

/-- Settles O39. -/
theorem isModifiedUnderPolicyA : Obligations.IsModifiedUnderPolicyA := by
  intro s hf hi hp
  refine ⟨modified s, exec_isModified hf hi, ?_⟩
  rw [modified, hp, modifiedA_iff, currentBank_a hp, previousBank_a hp]

/-! ### Scans that begin settled under POLICY A (R165, R166) -/

/-- Settles O31: the words read equal the write target, which PolicyStart has made of `previous`. -/
theorem staleBankChangeIsNotDebounced : Obligations.StaleBankChangeIsNotDebounced := by
  intro s t h hop hp hz hreads ht
  obtain ⟨⟨_, hf⟩, hi⟩ := hop
  rw [exec_scan hf hi] at ht
  cases ht
  have hpol : (scanBody s).cfg.policy = .a := by simpa using hp
  have htarget := writeTarget_policyStart_settled hp hz
  rw [previousBank_a hp, ← htarget] at hreads
  have hsel : (scanBody s).sel = s.sel.other := by rw [scanBody_sel, policyStart_sel_a hp, if_pos hz]
  have hcnt : (scanBody s).cnt = 0 := by
    apply BitVec.eq_of_toNat_eq
    rw [scanBody_cnt h.legal h.store, if_pos hreads, hz]
    rfl
  have hmem : (scanBody s).mem = s.mem := by
    apply Memory.ext_bank
    intro b
    rcases Bank.eq_or_eq_other b (writeTarget (policyStart s)) with rfl | rfl
    · exact (scanBody_bank_target h.legal h.store).trans hreads
    · exact scanBody_bank_other_a hp
  have hcurrent : currentBank (scanBody s) = previousBank s := by rw [currentBank_a hpol, hsel, previousBank_a hp]
  refine ⟨hmem, hcnt, hcurrent, ?_⟩
  rw [modified_iff_a hpol (h.scanBody hi).store, hcurrent, previousBank_a hpol, hsel, previousBank_a hp, hmem]
  cases s.sel with
  | zero => simpa [hcnt, Bank.other] using ne_comm
  | one => simp [hcnt, Bank.other]

/-- Settles O32: the words read differ from the write target, which PolicyStart has made of `previous`. -/
theorem settledChangeOpensASecondWindow : Obligations.SettledChangeOpensASecondWindow := by
  intro s t h hop hp hz hdiffer hreads ht
  obtain ⟨⟨_, hf⟩, hi⟩ := hop
  rw [exec_scan hf hi] at ht
  cases ht
  have hpol : (scanBody s).cfg.policy = .a := by simpa using hp
  have htarget := writeTarget_policyStart_settled hp hz
  rw [currentBank_a hp, previousBank_a hp] at hdiffer
  rw [currentBank_a hp] at hreads
  have hcnt : (scanBody s).cnt.toNat = s.cfg.debounce.toNat - 1 := by
    rw [scanBody_cnt h.legal h.store, if_neg (by rwa [htarget, hreads])]
  have hbanks : ∀ b, (scanBody s).mem.bank b = scanWords s := by
    intro b
    rcases Bank.eq_or_eq_other b (writeTarget (policyStart s)) with rfl | rfl
    · exact scanBody_bank_target h.legal h.store
    · rw [scanBody_bank_other_a hp, htarget, Bank.other_other, hreads]
  refine ⟨hcnt, hbanks _, hbanks _, ?_⟩
  rw [← Bool.not_eq_true, modified_iff_a hpol (h.scanBody hi).store, hbanks, hbanks]
  simp

/-! ### Several scans in a row -/

/-- A run of scans on an initialised block without a fault. -/
theorem afterScans_eq {s : State} (hf : s.fault = none) (hi : s.inited = true) (n : Nat) :
    afterScans n s = .next (scanBody^[n] s) := by
  induction n generalizing s with
  | zero => rfl
  | succ n ih =>
    rw [afterScans, exec_scan hf hi]
    exact ih (by simpa using hf) (by simpa using hi)

theorem iterate_scanBody_cfg (s : State) (n : Nat) : (scanBody^[n] s).cfg = s.cfg := by
  induction n generalizing s with
  | zero => rfl
  | succ n ih => exact (ih (scanBody s)).trans (scanBody_cfg s)

/-- A scan takes ROWS samples, so the later scans move up by one. -/
theorem upcomingWords_scanBody (s : State) (j : Nat) : upcomingWords (scanBody s) j = upcomingWords s (j + 1) := by
  have htaken : ∀ n, sampleAt (scanBody s) n = sampleAt s (s.cfg.rows + n) := fun n => by
    rw [sampleAt_congr (s := dropSamples s.cfg.rows s) (by simp) (by simp), sampleAt_dropSamples]
  have hindex : ∀ r, s.cfg.rows + (j * s.cfg.rows + r) = (j + 1) * s.cfg.rows + r := fun r => by ring
  simp [upcomingWords, htaken, hindex]

/-- The j-th scan from s reads the j-th upcoming table. -/
theorem scanWords_iterate (s : State) (j : Nat) : scanWords (scanBody^[j] s) = upcomingWords s j := by
  induction j generalizing s with
  | zero => exact (upcomingWords_zero s).symm
  | succ j ih => rw [Function.iterate_succ_apply, ih, upcomingWords_scanBody]

/-! ### Stable reads (R164; 43_debounce_integrator.md R184; 70_reset_and_hazards.md R297) -/

/-- t is s after k scans of one window in which every scan has read the table T, new to the write target of the first:
the write target holds T, CNT has counted k times, and the other bank is as it was, or published under POLICY B. -/
structure InStableWindow (s : State) (T : List RowWord) (k : Nat) (t : State) : Prop where
  inv : Inv t
  inited : t.inited = true
  cfg : t.cfg = s.cfg
  sel : t.sel = (policyStart s).sel
  cnt : t.cnt.toNat = s.cfg.debounce.toNat - k
  target : t.mem.bank (writeTarget (policyStart s)) = T
  other : t.mem.bank (writeTarget (policyStart s)).other =
    if s.cfg.policy = .b ∧ t.cnt = 0 then T else s.mem.bank (writeTarget (policyStart s)).other

/-- The scan that first reads T restarts the counter. -/
theorem InStableWindow.first {s : State} {T : List RowWord} (h : Inv s) (hi : s.inited = true)
    (hnew : T ≠ s.mem.bank (writeTarget (policyStart s))) (hreads : scanWords s = T) :
    InStableWindow s T 1 (scanBody s) where
  inv := h.scanBody hi
  inited := by simpa using hi
  cfg := scanBody_cfg s
  sel := scanBody_sel s
  cnt := by rw [scanBody_cnt h.legal h.store, if_neg (by rwa [hreads])]
  target := (scanBody_bank_target h.legal h.store).trans hreads
  other := by rw [scanBody_bank_other h.legal h.store, hreads]

theorem InStableWindow.writeTarget_eq {s t : State} {T : List RowWord} {k : Nat} (h : InStableWindow s T k t) :
    writeTarget t = writeTarget (policyStart s) :=
  writeTarget_congr (by simp [h.cfg]) h.sel

theorem InStableWindow.cnt_eq_zero_iff {s t : State} {T : List RowWord} {k : Nat} (h : InStableWindow s T k t)
    (hk : k ≤ s.cfg.debounce.toNat) : t.cnt = 0 ↔ k = s.cfg.debounce.toNat := by
  have hzero : t.cnt = 0 ↔ t.cnt.toNat = 0 := BitVec.toNat_inj.symm
  rw [hzero, h.cnt]
  omega

/-- While the window is open a scan that reads T again keeps the roles and the banks, and counts down. -/
theorem InStableWindow.next {s t : State} {T : List RowWord} {k : Nat} (h : InStableWindow s T k t)
    (hk : k < s.cfg.debounce.toNat) (hreads : scanWords t = T) : InStableWindow s T (k + 1) (scanBody t) := by
  have hopen : t.cnt ≠ 0 := by rw [ne_eq, h.cnt_eq_zero_iff hk.le]; omega
  have hstart := policyStart_of_cnt_ne_zero hopen
  have htarget : writeTarget (policyStart t) = writeTarget (policyStart s) := by rw [hstart, h.writeTarget_eq]
  have hlegal := h.inv.legal
  have hstore := h.inv.store
  constructor
  case inv => exact h.inv.scanBody h.inited
  case inited => simpa using h.inited
  case cfg => exact (scanBody_cfg t).trans h.cfg
  case sel => rw [scanBody_sel, hstart, h.sel]
  case cnt =>
    rw [scanBody_cnt hlegal hstore, htarget, hreads, if_pos h.target.symm, h.cnt]
    omega
  case target => rw [← htarget, scanBody_bank_target hlegal hstore, hreads]
  case other =>
    have hbefore := h.other
    rw [if_neg fun hend => hopen hend.2] at hbefore
    rw [← htarget, scanBody_bank_other hlegal hstore, htarget, hreads, hbefore, h.cfg]

/-- The window of a table T that D = DEBOUNCE scans in a row read, scan by scan. -/
theorem inStableWindow_iterate {s : State} {T : List RowWord} (h : Inv s) (hi : s.inited = true)
    (hnew : T ≠ s.mem.bank (writeTarget (policyStart s)))
    (hreads : ∀ j, j < s.cfg.debounce.toNat → upcomingWords s j = T) {k : Nat} (hk : 1 ≤ k) :
    k ≤ s.cfg.debounce.toNat → InStableWindow s T k (scanBody^[k] s) := by
  induction k, hk using Nat.le_induction with
  | base => exact fun hd => .first h hi hnew (by rw [← upcomingWords_zero, hreads 0 hd])
  | succ k _ ih =>
    intro hd
    rw [Function.iterate_succ_apply']
    exact (ih (by omega)).next hd (by rw [scanWords_iterate, hreads k hd])

/-- Under POLICY A the window shows T at once, and its change against `previous` at its end (R164). -/
theorem InStableWindow.policyA {s t : State} {T : List RowWord} {k : Nat} (h : InStableWindow s T k t)
    (hk : k ≤ s.cfg.debounce.toNat) (hp : s.cfg.policy = .a) :
    t.mem.bank (committedBank t) = T ∧ t.mem.bank (previousBank t) = s.mem.bank (previousBank (policyStart s)) ∧
      (modified t = true ↔ k = s.cfg.debounce.toNat ∧ T ≠ t.mem.bank (previousBank t)) := by
  have hpol : t.cfg.policy = .a := by rw [h.cfg, hp]
  have hstart : (policyStart s).cfg.policy = .a := by simpa using hp
  have hsel : t.sel = writeTarget (policyStart s) := by rw [← h.writeTarget_eq, writeTarget_a hpol]
  have hprevious : previousBank t = (writeTarget (policyStart s)).other := by rw [previousBank_a hpol, hsel]
  have hother := h.other
  rw [if_neg (by simp [hp]), ← hprevious] at hother
  refine ⟨by rw [committedBank_a hpol, hsel, h.target], ?_, ?_⟩
  · rw [hother, hprevious, previousBank_a hstart, writeTarget_a hstart]
  · rw [modified_iff_a hpol h.inv.store, h.cnt_eq_zero_iff hk, currentBank_a hpol, hsel, h.target]

/-- Under POLICY B the window publishes T at its end, and holds MODIFIED back until then
(43_debounce_integrator.md R184). -/
theorem InStableWindow.policyB {s t : State} {T : List RowWord} {k : Nat} (h : InStableWindow s T k t)
    (hk : k ≤ s.cfg.debounce.toNat) (hp : s.cfg.policy = .b) :
    t.mem.bank0 = (if k = s.cfg.debounce.toNat then T else s.mem.bank0) ∧
      (modified t = true ↔ k = s.cfg.debounce.toNat) := by
  have hpol : t.cfg.policy = .b := by rw [h.cfg, hp]
  have hshadow : writeTarget (policyStart s) = .one := writeTarget_b (by simpa using hp)
  have hother := h.other
  simp only [hshadow, Bank.other, Memory.bank_zero, hp, true_and, h.cnt_eq_zero_iff hk] at hother
  exact ⟨hother, by rw [modified_iff_b hpol, h.cnt_eq_zero_iff hk]⟩

/-- Settles O30, by the state of the window after each of its scans. -/
theorem stableReadsSettleAfterTheWindow : Obligations.StableReadsSettleAfterTheWindow := by
  intro s T h hop _ hnew hreads k hk hd
  obtain ⟨⟨_, hf⟩, hi⟩ := hop
  have hwindow := inStableWindow_iterate h hi hnew hreads hk hd
  exact ⟨scanBody^[k] s, afterScans_eq hf hi k, hwindow.cnt, hwindow.policyA hd, hwindow.policyB hd⟩

end Sys2Proof.Machine

end SwapBuffer

/-! ## The debounce integrator (43_debounce_integrator.md) -/

section DebounceIntegrator

namespace Sys2Proof.Machine

/-! ### MODIFIED, the counter and the published bank (R181 to R183, R187) -/

/-- Settles O40: IS_MODIFIED answers MODIFIED, which is CNT = 0 under POLICY B. -/
theorem isModifiedUnderPolicyB : Obligations.IsModifiedUnderPolicyB := by
  intro s hf hi hp
  rw [exec_isModified hf hi]
  by_cases hz : s.cnt = 0
  · rw [(modified_iff_b hp).mpr hz, if_pos hz]
    rfl
  · rw [Bool.eq_false_iff.mpr (mt (modified_iff_b hp).mp hz), if_neg hz]
    rfl

/-- Settles O28, by the counter after the rule of SCAN. -/
theorem counterAfterScan : Obligations.CounterAfterScan := by
  intro s t hc hw hf hi ht
  rw [exec_scan hf hi] at ht
  cases ht
  exact scanBody_cnt hc hw

/-- Under POLICY B every scan writes the shadow, whatever SEL and CNT are (R181). -/
theorem writeTarget_policyStart_b {s : State} (h : s.cfg.policy = .b) : writeTarget (policyStart s) = .one :=
  writeTarget_b (by simpa using h)

/-- PolicyStart does nothing under POLICY B (R180). -/
theorem policyStart_b {s : State} (h : s.cfg.policy = .b) : policyStart s = s := by simp [policyStart, h]

/-- Settles O27: the write target is the shadow, and the other bank is the published one. -/
theorem publishExactlyWhenZero : Obligations.PublishExactlyWhenZero := by
  intro s t hc hp hw hf hi ht
  rw [exec_scan hf hi] at ht
  cases ht
  have hcnt := scanBody_cnt hc hw
  have hshadow := scanBody_bank_target hc hw
  have hpublished := scanBody_bank_other hc hw
  simp only [writeTarget_policyStart_b hp, Bank.other, Memory.bank_zero, Memory.bank_one, hp, true_and]
    at hcnt hshadow hpublished
  exact ⟨hcnt, hshadow, by rw [scanBody_sel, policyStart_b hp], hpublished⟩

/-! ### The level commit and the event commit (R182, R185 (a)) -/

/-- The count-down ends at 0 from 0 and from 1. -/
theorem countDown_cnt_eq_zero_iff {s : State} : (countDown s).cnt = 0 ↔ s.cnt = 0 ∨ s.cnt = 1 := by
  have hdown := countDown_cnt s
  bv_omega

/-- Copying a shadow that is published already changes nothing. -/
theorem commitShadow_of_published {s : State} (h : s.mem.bank0 = s.mem.bank1) : commitShadow s = s := by
  rw [commitShadow, Memory.bank_one, ← h]
  rfl

/-- The two commits differ only where CNT is 0 before the count-down, and there the copy changes nothing when the shadow
is published (R185 (a)). -/
theorem policyEndOnEvent_eq_policyEnd {s : State} (hp : s.cfg.policy = .b)
    (h : s.cnt = 0 → s.mem.bank0 = s.mem.bank1) : policyEndOnEvent s = policyEnd s := by
  simp only [policyEndOnEvent, policyEnd, hp, countDown_cnt_eq_zero_iff]
  by_cases hz : s.cnt = 0
  · have hkept : countDown s = s := if_pos hz
    rw [hkept, commitShadow_of_published (h hz)]
    simp
  · simp only [hz, false_or]

/-- With DEBOUNCE >= 1, a row loop that leaves CNT at 0 found CNT = 0 and no row that differs, so that the shadow it leaves
is published (R184, R185 (a)). -/
theorem stageRows_published {s : State} (h : Inv s) (hop : Operational s) (hp : s.cfg.policy = .b)
    (hd : s.cfg.debounce ≠ 0) (hz : (stageRows (scanWords s) s).cnt = 0) :
    (stageRows (scanWords s) s).mem.bank0 = (stageRows (scanWords s) s).mem.bank1 := by
  obtain ⟨⟨hb, _⟩, hi⟩ := hop
  have hlength : (s.mem.bank (writeTarget s)).length = (scanWords s).length := by
    simpa using Memory.wf_length h.store _
  rw [stageRows_spec _ _ hlength] at hz ⊢
  simp only at hz ⊢
  split at hz
  case isTrue hsame =>
    rw [hsame, Memory.setBank_bank]
    exact h.published hp hi (.inl (h.phase_of_not_busy hb)) hz
  case isFalse => exact absurd hz hd

/-- Settles O34: SCAN is the collapsed scan, and after its row loop the two commits do the same. -/
theorem eventCommitIsTheSameMachine : Obligations.EventCommitIsTheSameMachine := by
  intro s h hop hp hd
  have hend : policyEndOnEvent (stageRows (scanWords s) s) = policyEnd (stageRows (scanWords s) s) :=
    policyEndOnEvent_eq_policyEnd (by rw [stageRows_eq_stagePrefix, stagePrefix_frame]; exact hp)
      (stageRows_published h hop hp hd)
  obtain ⟨⟨_, hf⟩, hi⟩ := hop
  rw [exec_scan hf hi, scanBody_eq_collapsedScan (Config.rows_bounds h.legal).1, collapsedScan, collapsedScanWith,
    collapsedScanWith, policyStart_b hp, hend]

/-! ### What the reading commands see of the state (44_accessors.md R200 to R205) -/

/-- What a command that only reads can see of two initialised blocks without a fault is equal in them: the board but for
DEBOUNCE, the committed bank, and MODIFIED. -/
structure SameView (s t : State) : Prop where
  boards : t.cfg = { s.cfg with debounce := t.cfg.debounce }
  faults : s.fault = none ∧ t.fault = none
  inited : t.inited = s.inited
  committed : t.mem.bank (committedBank t) = s.mem.bank (committedBank s)
  modified : modified t = modified s

theorem SameView.rows {s t : State} (h : SameView s t) : t.cfg.rows = s.cfg.rows := by rw [h.boards]

theorem SameView.committedWord {s t : State} (h : SameView s t) : committedWord t = committedWord s := by
  funext r
  simp only [Machine.committedWord, Memory.read, h.committed]

/-- The checks (2) to (5) of 30_encoding.md R99 come out alike. -/
theorem SameView.firstFault {s t : State} (h : SameView s t) (i : Instr) : firstFault i t = firstFault i s := by
  have hcols : t.cfg.cols = s.cfg.cols := by rw [h.boards]
  have hghost : t.cfg.ghostEn = s.cfg.ghostEn := by rw [h.boards]
  simp only [Machine.firstFault, reservedFault, initialisationFault_eq, rowFault_eq, colFault_eq, h.rows, hcols, hghost,
    h.inited]

/-- A reading command that executes its rule answers alike. -/
theorem SameView.commandBody_rsp {s t : State} (h : SameView s t) {i : Instr} (hi : i ≠ .init) (hs : i ≠ .scan) :
    (commandBody i t).rsp = (commandBody i s).rsp := by
  cases i with
  | init => exact absurd rfl hi
  | scan => exact absurd rfl hs
  | isModified => simp only [commandBody, respond_rsp, h.modified]
  | isOn row col => simp only [commandBody, respond_rsp, committedBit, h.committedWord]
  | getRow row => simp only [commandBody, respond_rsp, h.committedWord]
  | keyCount => simp only [commandBody, respond_rsp, keyCount, h.rows, h.committedWord]
  | hasGhost => simp only [commandBody, respond_rsp, ghost, ghostInRow, h.rows, h.committedWord]
  | printDebug => rfl

/-- A reading command fails the same check in both, or executes its rule in both. -/
theorem SameView.sameAnswers {s t : State} (h : SameView s t) : sameAnswers s t := by
  intro i hi hs
  refine ⟨_, _, exec_eq_runCommand i s, exec_eq_runCommand i t, ?_⟩
  obtain ⟨hfs, hft⟩ := h.faults
  have hchecks := h.firstFault i
  cases hk : Machine.firstFault i s with
  | some k => rw [runCommand_raises hfs hk, runCommand_raises hft (hchecks.trans hk), raiseFault_rsp, raiseFault_rsp]
  | none =>
    rw [runCommand_passes hfs hk, runCommand_passes hft (hchecks.trans hk)]
    exact (h.commandBody_rsp hi hs).symm

/-! ### DEBOUNCE 0 and DEBOUNCE 1 (R185 (b)) -/

/-- The two boards of `Twins`, wherever their counters and banks are. -/
structure TwinBoards (s t : State) : Prop where
  boards : t.cfg = { s.cfg with debounce := 1 }
  zero : s.cfg.debounce = 0
  operational : Operational s ∧ Operational t
  samples : t.samples = s.samples ∧ t.draws = s.draws

theorem Twins.twinBoards {s t : State} (h : Twins s t) : TwinBoards s t := ⟨h.boards, h.zero, h.operational, h.samples⟩

theorem TwinBoards.rows {s t : State} (h : TwinBoards s t) : t.cfg.rows = s.cfg.rows := by rw [h.boards]

theorem TwinBoards.policy {s t : State} (h : TwinBoards s t) : t.cfg.policy = s.cfg.policy := by rw [h.boards]

/-- Twin boards read the same table. -/
theorem TwinBoards.scanWords {s t : State} (h : TwinBoards s t) : scanWords t = scanWords s := by
  obtain ⟨hsamples, hdraws⟩ := h.samples
  simp only [Machine.scanWords, h.rows, sampleAt_congr hsamples hdraws]
  rw [h.boards]
  rfl

/-- Two settled twins show the same MODIFIED: under POLICY A their `current` and `previous` banks are the committed bank
and the other one. -/
theorem Twins.modified {s t : State} (h : Twins s t) : modified t = modified s := by
  obtain ⟨hs, ht⟩ := h.settled
  have hpol := h.twinBoards.policy
  cases hp : s.cfg.policy with
  | a =>
    have hcommitted := h.committed
    have hother := h.other
    simp only [committedBank_a hp, committedBank_a (hpol.trans hp)] at hcommitted hother
    simp only [Machine.modified, hp, hpol, modifiedA, hs, ht, h.twinBoards.rows, Memory.read, currentBank_a hp,
      currentBank_a (hpol.trans hp), previousBank_a hp, previousBank_a (hpol.trans hp), hcommitted, hother]
  | b => simp only [Machine.modified, hp, hpol, modifiedB, hs, ht]

theorem Twins.sameAnswers {s t : State} (h : Twins s t) : sameAnswers s t := by
  obtain ⟨⟨⟨_, hfs⟩, his⟩, ⟨_, hft⟩, hit⟩ := h.operational
  have hboards : t.cfg = { s.cfg with debounce := t.cfg.debounce } := by rw [h.boards]
  exact SameView.sameAnswers ⟨hboards, ⟨hfs, hft⟩, hit.trans his.symm, h.committed, h.modified⟩

/-- With DEBOUNCE at most 1 every scan ends settled (10_state.md R38). -/
theorem scanBody_settled {s : State} (h : Inv s) (hi : s.inited = true) (hd : s.cfg.debounce.toNat ≤ 1) :
    (scanBody s).cnt = 0 := by
  have hcnt := (h.storeOk hi).scanBody_cnt
  bv_omega

/-- A scan that ends settled shows its own reads in the committed bank, under both policies. -/
theorem scanBody_committed_of_settled {s : State} (h : Inv s) (hz : (scanBody s).cnt = 0) :
    (scanBody s).mem.bank (committedBank (scanBody s)) = scanWords s := by
  have htarget := scanBody_bank_target h.legal h.store
  cases hp : s.cfg.policy with
  | a =>
    have hpol : (scanBody s).cfg.policy = .a := by simpa using hp
    rwa [committedBank_a hpol, ← writeTarget_a hpol, scanBody_writeTarget]
  | b =>
    have hpublished := scanBody_published hp hz
    rw [writeTarget_policyStart_b hp] at htarget
    rw [committedBank_b (by simpa using hp)]
    exact hpublished.trans htarget

/-- After a scan the bank that is not committed is, under POLICY A, the one the scan did not write, and under POLICY B the
shadow with the words read. -/
theorem scanBody_uncommitted {s : State} (h : Inv s) :
    (scanBody s).mem.bank (committedBank (scanBody s)).other =
      if s.cfg.policy = .a then s.mem.bank (writeTarget (policyStart s)).other else scanWords s := by
  cases hp : s.cfg.policy with
  | a =>
    have hpol : (scanBody s).cfg.policy = .a := by simpa using hp
    rw [committedBank_a hpol, ← writeTarget_a hpol, scanBody_writeTarget, scanBody_bank_other_a hp]
    rfl
  | b =>
    have htarget := scanBody_bank_target h.legal h.store
    rw [writeTarget_policyStart_b hp] at htarget
    rw [committedBank_b (by simpa using hp)]
    simpa [Bank.other] using htarget

/-- One scan makes twin boards twins, when under POLICY A the banks that it does not write are alike. -/
theorem TwinBoards.scanBody {s t : State} (h : TwinBoards s t) (hs : Inv s) (ht : Inv t)
    (hkept : s.cfg.policy = .a →
      t.mem.bank (writeTarget (policyStart t)).other = s.mem.bank (writeTarget (policyStart s)).other) :
    Twins (scanBody s) (scanBody t) := by
  obtain ⟨⟨⟨_, hfs⟩, his⟩, ⟨_, hft⟩, hit⟩ := h.operational
  obtain ⟨hsamples, hdraws⟩ := h.samples
  have hzs : (Machine.scanBody s).cnt = 0 := scanBody_settled hs his (by simp [h.zero])
  have hzt : (Machine.scanBody t).cnt = 0 := scanBody_settled ht hit (by simp [h.boards])
  constructor
  case boards => simpa using h.boards
  case zero => simpa using h.zero
  case operational =>
    exact ⟨⟨⟨by simp, by simpa using hfs⟩, by simpa using his⟩, ⟨by simp, by simpa using hft⟩, by simpa using hit⟩
  case settled => exact ⟨hzs, hzt⟩
  case samples => simp [hsamples, hdraws, h.rows]
  case committed => rw [scanBody_committed_of_settled ht hzt, scanBody_committed_of_settled hs hzs, h.scanWords]
  case other =>
    rw [scanBody_uncommitted ht, scanBody_uncommitted hs, h.policy, h.scanWords]
    split
    case isTrue hp => exact hkept hp
    case isFalse => rfl

/-- A settled block under POLICY A does not write its committed bank in the next scan (42_debounce_swap_buffer.md R160). -/
theorem other_writeTarget_of_settled {s : State} (hp : s.cfg.policy = .a) (hz : s.cnt = 0) :
    (writeTarget (policyStart s)).other = committedBank s := by
  rw [writeTarget_policyStart_settled hp hz, Bank.other_other, committedBank_a hp]

/-- Settles O35: the twins answer alike, and one more scan of each makes twins again. -/
theorem debounceZeroAndOneStayAlike : Obligations.DebounceZeroAndOneStayAlike := by
  intro s t hs ht h
  obtain ⟨⟨⟨_, hfs⟩, his⟩, ⟨_, hft⟩, hit⟩ := h.operational
  obtain ⟨hzs, hzt⟩ := h.settled
  have hnext : Twins (scanBody s) (scanBody t) := h.twinBoards.scanBody hs ht fun hp => by
    rw [other_writeTarget_of_settled hp hzs, other_writeTarget_of_settled (h.twinBoards.policy.trans hp) hzt,
      h.committed]
  exact ⟨h.sameAnswers, _, _, exec_scan hfs his, exec_scan hft hit, hnext, hnext.sameAnswers⟩

/-! ### The first scan after INIT (R185 (b)) -/

/-- A block right after hardware reset, with the samples to come. -/
def resetReading (c : Config) (xs : List (BitVec 16)) (n : Nat) : State :=
  { State.resetWith c with samples := xs, draws := n }

theorem inv_initBody_resetReading {c : Config} (hc : c.wellFormed = true) (xs : List (BitVec 16)) (n : Nat) :
    Inv (initBody (resetReading c xs n)) := by
  have hreset : Inv (resetReading c xs n) :=
    (inv_resetWith hc).congr (sameRegisters_refl (State.resetWith c)) fun _ => rfl
  exact hreset.initBody rfl

theorem operational_initBody_resetReading (c : Config) (xs : List (BitVec 16)) (n : Nat) :
    Operational (initBody (resetReading c xs n)) := by
  rw [initBody_eq]
  exact ⟨⟨rfl, rfl⟩, rfl⟩

/-- INIT makes the banks of a board alike, so it does not matter which one the first scan writes. -/
theorem initBody_bank (s : State) (b : Bank) : (initBody s).mem.bank b = List.replicate s.cfg.rows 0 := by
  rw [initBody_eq]
  cases b <;> rfl

theorem twinBoards_initBody_resetReading {c : Config} (hd : c.debounce = 0) (xs : List (BitVec 16)) (n : Nat) :
    TwinBoards (initBody (resetReading c xs n)) (initBody (resetReading { c with debounce := 1 } xs n)) where
  boards := by simp only [initBody_eq]; rfl
  zero := by rw [initBody_eq]; exact hd
  operational := ⟨operational_initBody_resetReading c xs n, operational_initBody_resetReading _ xs n⟩
  samples := by simp only [initBody_eq]; exact ⟨rfl, rfl⟩

/-- Settles O36: INIT makes twin boards with cleared banks, and one scan of each makes twins. -/
theorem debounceZeroAndOneMeetAfterTheFirstScan : Obligations.DebounceZeroAndOneMeetAfterTheFirstScan := by
  intro c xs n hc hd
  have hboards := twinBoards_initBody_resetReading hd xs n
  obtain ⟨⟨⟨_, hfs⟩, his⟩, ⟨_, hft⟩, hit⟩ := hboards.operational
  have hmeet := hboards.scanBody (inv_initBody_resetReading hc xs n)
    (inv_initBody_resetReading (c := { c with debounce := 1 }) hc xs n) fun _ => by
      rw [initBody_bank, initBody_bank]
      rfl
  exact ⟨_, _, _, _, exec_init rfl rfl, exec_init rfl rfl, exec_scan hfs his, exec_scan hft hit, hmeet⟩

end Sys2Proof.Machine

end DebounceIntegrator

/-! ## The accessors (44_accessors.md) -/

section Accessors

namespace Sys2Proof.Machine

/-! ### What the reading commands leave alone (R205) -/

/-- A command that only reads writes the ports alone, whatever its checks say. -/
theorem onlyPortsDiffer_runCommand {i : Instr} (hi : i ≠ .init) (hs : i ≠ .scan) (s : State) :
    onlyPortsDiffer s (runCommand i (commandBody i) s) := by
  rcases runCommand_cases i (commandBody i) s with ⟨_, e⟩ | ⟨k, _, _, e⟩ | ⟨_, _, e⟩ <;> rw [e]
  · exact onlyPortsDiffer_stickyFault s
  · exact onlyPortsDiffer_raiseFault k (encode i) s
  · exact onlyPortsDiffer_commandBody hi hs s

theorem onlyPortsDiffer.sameEnvironment {s t : State} (h : onlyPortsDiffer s t) : sameEnvironment s t := by
  rw [h]
  exact ⟨rfl, rfl, rfl⟩

/-- Of the commands that only read, PRINT_DEBUG alone writes the sink (45_ghost_detector.md R222). -/
theorem commandBody_sink {i : Instr} (hi : i ≠ .init) (hs : i ≠ .scan) (hp : i ≠ .printDebug) (s : State) :
    (commandBody i s).sink = s.sink := by
  cases i with
  | init => exact absurd rfl hi
  | scan => exact absurd rfl hs
  | printDebug => exact absurd rfl hp
  | isModified | isOn | getRow | keyCount | hasGhost => rfl

theorem runCommand_sink {i : Instr} (hi : i ≠ .init) (hs : i ≠ .scan) (hp : i ≠ .printDebug) (s : State) :
    (runCommand i (commandBody i) s).sink = s.sink := by
  rcases runCommand_cases i (commandBody i) s with ⟨_, e⟩ | ⟨k, _, _, e⟩ | ⟨_, _, e⟩ <;> rw [e]
  · exact stickyFault_sink s
  · exact raiseFault_sink s k (encode i)
  · exact commandBody_sink hi hs hp s

/-- Every command, INIT and SCAN too, keeps FAULT or answers an error (60_exceptions.md R242). -/
theorem runCommand_fault_or_error (i : Instr) (s : State) :
    (runCommand i (commandBody i) s).fault = s.fault ∨ (runCommand i (commandBody i) s).rsp = some .error := by
  rcases runCommand_cases i (commandBody i) s with ⟨_, e⟩ | ⟨k, _, _, e⟩ | ⟨_, _, e⟩ <;> rw [e]
  · exact .inr (stickyFault_rsp s)
  · exact .inr (raiseFault_rsp s k (encode i))
  · obtain ⟨hfault, _⟩ := commandBody_answers i s
    exact .inl hfault

/-- Settles O46: whatever the checks say, a command that only reads writes the ports alone. -/
theorem accessorsChangeNoState : Obligations.AccessorsChangeNoState := by
  intro s i hi hs
  have hports := onlyPortsDiffer_runCommand hi hs s
  exact ⟨_, exec_eq_runCommand i s, hports.sameRegisters, hports.sameEnvironment,
    fun hp => runCommand_sink hi hs hp s, runCommand_fault_or_error i s⟩

/-! ### The checks of IS_ON, GET_ROW and KEY_COUNT on an initialised block (30_encoding.md R99) -/

theorem exec_passes {i : Instr} {s : State} (hf : s.fault = none) (hk : firstFault i s = none) :
    exec i s = .next (commandBody i s) := by
  rw [exec_eq_runCommand, runCommand_passes hf hk]

theorem exec_raises {i : Instr} {s : State} {k : FaultKind} (hf : s.fault = none) (hk : firstFault i s = some k) :
    exec i s = .next (raiseFault k (encode i) s) := by
  rw [exec_eq_runCommand, runCommand_raises hf hk]

/-- IS_ON checks its row, then its column. -/
theorem firstFault_isOn {s : State} (h : s.inited = true) (row : RowIndex) (col : ColIndex) :
    firstFault (.isOn row col) s =
      if s.cfg.rows ≤ row.toNat then some .rowRange
      else if s.cfg.cols ≤ col.toNat then some .colRange
      else none := by
  rw [firstFault_eq rfl]
  simp [h, rowOperand, colOperand]

/-- GET_ROW checks its row. -/
theorem firstFault_getRow {s : State} (h : s.inited = true) (row : RowIndex) :
    firstFault (.getRow row) s = if s.cfg.rows ≤ row.toNat then some .rowRange else none := by
  rw [firstFault_eq rfl]
  simp [h, rowOperand, colOperand]

/-- KEY_COUNT has no operand to check. -/
theorem firstFault_keyCount {s : State} (h : s.inited = true) : firstFault .keyCount s = none := by
  rw [firstFault_eq rfl]
  simp [h, rowOperand, colOperand]

/-! ### The answers in range (R202 to R204) -/

theorem exec_isOn {s : State} (hf : s.fault = none) (hi : s.inited = true) {row : RowIndex} {col : ColIndex}
    (hr : row.toNat < s.cfg.rows) (hc : col.toNat < s.cfg.cols) :
    exec (.isOn row col) s = .next (respond (boolWord (committedBit s row.toNat col.toNat)) s) :=
  exec_passes hf (by rw [firstFault_isOn hi, if_neg hr.not_ge, if_neg hc.not_ge])

theorem exec_getRow {s : State} (hf : s.fault = none) (hi : s.inited = true) {row : RowIndex}
    (hr : row.toNat < s.cfg.rows) : exec (.getRow row) s = .next (respond (committedWord s row.toNat) s) :=
  exec_passes hf (by rw [firstFault_getRow hi, if_neg hr.not_ge])

theorem exec_keyCount {s : State} (hf : s.fault = none) (hi : s.inited = true) :
    exec .keyCount s = .next (respond (BitVec.ofNat 16 (keyCount s)) s) :=
  exec_passes hf (firstFault_keyCount hi)

/-! ### IS_ON and GET_ROW (R200, R202, R203) -/

/-- CM under both policies (R200). -/
theorem committedBank_eq (s : State) : committedBank s = if s.cfg.policy = .a then s.sel else .zero := by
  cases hp : s.cfg.policy with
  | a => rw [committedBank_a hp, if_pos rfl]
  | b => rw [committedBank_b hp, if_neg (by decide)]

/-- Settles O41, by the first check that fails. -/
theorem isOnAnswersOneBit : Obligations.IsOnAnswersOneBit := by
  intro s row col hf hi
  refine ⟨fun hr hc => ?_, fun hr => ?_, fun hr hc => ?_⟩
  · rw [exec_isOn hf hi hr hc, committedBit, committedWord, committedBank_eq]
    rfl
  · exact exec_raises hf (by rw [firstFault_isOn hi, if_pos hr])
  · exact exec_raises hf (by rw [firstFault_isOn hi, if_neg hr.not_ge, if_pos hc])

/-- Settles O42, by the range check. -/
theorem getRowAnswersOneWord : Obligations.GetRowAnswersOneWord := by
  intro s row hf hi
  refine ⟨fun hr => ?_, fun hr => ?_⟩
  · rw [exec_getRow hf hi hr, committedWord, committedBank_eq]
    rfl
  · exact exec_raises hf (by rw [firstFault_getRow hi, if_pos hr])

/-- One bit of a word as a response is the word shifted down to it and masked. -/
theorem boolWord_getLsbD (w : RowWord) (c : Nat) : boolWord (w.getLsbD c) = (w >>> c) &&& 1 := by
  refine Eq.trans ?_ BitVec.and_one_eq_setWidth_ofBool_getLsbD.symm
  rw [BitVec.getLsbD_ushiftRight, Nat.add_zero]
  cases w.getLsbD c <;> rfl

/-- Settles O43: IS_ON reads the bit that GET_ROW answers among others. -/
theorem isOnIsABitOfGetRow : Obligations.IsOnIsABitOfGetRow := by
  intro s row col hf hi hr hc
  refine ⟨_, _, committedWord s row.toNat, exec_getRow hf hi hr, exec_isOn hf hi hr hc, rfl, ?_⟩
  rw [respond_rsp, committedBit, boolWord_getLsbD]

/-! ### KEY_COUNT (R204) -/

/-- A word without a bit from w up has at most w bits set. -/
theorem popcount_le_of_shift {x : RowWord} {w : Nat} (hw : w ≤ 16) (h : x >>> w = 0) : popcount x ≤ w := by
  have hhigh : ∀ k, x.getLsbD (w + k) = false := fun k => by
    rw [← BitVec.getLsbD_ushiftRight, h]
    exact BitVec.getLsbD_zero
  have hsplit : List.range 16 = List.range w ++ (List.range (16 - w)).map (w + ·) := by
    rw [← List.range_add, Nat.add_sub_cancel' hw]
  calc popcount x = (List.range w).countP fun c => x.getLsbD c := by
        simp [popcount, hsplit, List.countP_map, Function.comp_def, hhigh]
    _ ≤ (List.range w).length := List.countP_le_length
    _ = w := List.length_range

/-- Rows of at most n pressed bits hold at most ROWS x n in all. -/
theorem keyCount_le_of_popcount_le {s : State} {n : Nat} (h : ∀ r < s.cfg.rows, popcount (committedWord s r) ≤ n) :
    keyCount s ≤ s.cfg.rows * n := by
  have hrow : ∀ k ∈ (List.range s.cfg.rows).map fun r => popcount (committedWord s r), k ≤ n := by simpa using h
  simpa [keyCount] using List.sum_le_card_nsmul _ n hrow

theorem popcount_le_sixteen (x : RowWord) : popcount x ≤ 16 :=
  popcount_le_of_shift le_rfl (BitVec.ushiftRight_eq_zero le_rfl)

/-- KEY_COUNT of a legal board answers the count itself, since 255 x 16 fits in 16 bits. -/
theorem keyCount_untruncated {s : State} (h : s.cfg.wellFormed = true) :
    (BitVec.ofNat 16 (keyCount s)).toNat = keyCount s := by
  obtain ⟨_, hmax⟩ := Config.rows_bounds h
  have hle : keyCount s ≤ s.cfg.rows * 16 :=
    keyCount_le_of_popcount_le fun r _ => popcount_le_sixteen (committedWord s r)
  rw [BitVec.toNat_ofNat]
  exact Nat.mod_eq_of_lt (by omega)

/-- Counting in a product list goes row by row. -/
theorem countP_product {α β : Type} (l : List α) (m : List β) (p : α × β → Bool) :
    (l ×ˢ m).countP p = (l.map fun a => m.countP fun b => p (a, b)).sum := by
  induction l with
  | nil => rfl
  | cons a l ih => simp [List.product_cons, List.countP_map, Function.comp_def, ih]

/-- The row by row count is the number of pressed positions. -/
theorem keyCount_eq_length_filter (s : State) :
    keyCount s =
      ((List.range s.cfg.rows ×ˢ List.range 16).filter fun p => (committedWord s p.1).getLsbD p.2).length := by
  rw [← List.countP_eq_length_filter, countP_product]
  rfl

/-- Settles O44: the row by row count is the number of pressed positions, and 16 bits hold it. -/
theorem keyCountCountsThePressedBits : Obligations.KeyCountCountsThePressedBits := by
  intro s hc hf hi
  refine ⟨_, exec_keyCount hf hi, ?_⟩
  rw [keyCount_untruncated hc, keyCount_eq_length_filter]

/-- Once initialised, a committed word has no bit from W up (10_state.md R36). -/
theorem committedWord_shift {s : State} (h : Inv s) (hi : s.inited = true) {r : Nat} (hr : r < s.cfg.rows) :
    committedWord s r >>> readWidth s.cfg = 0 := by
  have hlen : r < (s.mem.bank (committedBank s)).length := by rwa [Memory.wf_length h.store]
  rw [committedWord, Memory.read_of_lt _ _ hlen]
  exact readableBits_iff.mpr (h.upperBits hi) _ _ (List.getElem_mem hlen)

/-- Settles O45: every committed word has at most W bits set. -/
theorem keyCountIsAtMostTheReadableBits : Obligations.KeyCountIsAtMostTheReadableBits := by
  rintro s h ⟨⟨_, hf⟩, hi⟩
  refine ⟨_, exec_keyCount hf hi, ?_⟩
  rw [keyCount_untruncated h.legal]
  exact keyCount_le_of_popcount_le fun r hr =>
    popcount_le_of_shift (readWidth_le_sixteen h.legal) (committedWord_shift h hi hr)

end Sys2Proof.Machine

end Accessors

/-! ## The ghost detector and the debug dump (45_ghost_detector.md) -/

section GhostDetector

namespace Sys2Proof.Machine

/-! ### Words with fewer than two bits set (R220) -/

/-- The test `((x - 1) & x) == 0` accepts zero and the powers of two: the subtraction clears the lowest set bit and sets
the bits below it. -/
theorem fewerThanTwoBits_iff_eq_twoPow {x : RowWord} :
    fewerThanTwoBits x = true ↔ x = 0 ∨ ∃ k < 16, x = BitVec.twoPow 16 k := by
  by_cases hx : x = 0
  · simp [hx, fewerThanTwoBits]
  have hpos : x.toNat ≠ 0 := fun h => hx (BitVec.eq_of_toNat_eq h)
  have hsub : (x - 1).toNat = x.toNat - 1 := by bv_omega
  have htest : fewerThanTwoBits x = true ↔ x.toNat &&& (x.toNat - 1) = 0 := by
    rw [fewerThanTwoBits, beq_iff_eq, ← BitVec.toNat_inj, BitVec.toNat_and, hsub, Nat.and_comm]
    rfl
  rw [htest, Nat.and_sub_one_eq_zero_iff_isPowerOfTwo hpos, or_iff_right hx]
  constructor
  · rintro ⟨k, hk⟩
    have hk16 : k < 16 := (Nat.pow_lt_pow_iff_right (a := 2) (by decide)).mp (hk ▸ x.isLt)
    exact ⟨k, hk16, BitVec.eq_of_toNat_eq (hk.trans (BitVec.toNat_twoPow_of_lt hk16).symm)⟩
  · rintro ⟨k, hk16, rfl⟩
    exact ⟨k, BitVec.toNat_twoPow_of_lt hk16⟩

theorem popcount_eq_zero_iff {x : RowWord} : popcount x = 0 ↔ x = 0 := by
  constructor
  · intro h
    refine BitVec.eq_of_getLsbD_eq fun c hc => ?_
    simpa using List.countP_eq_zero.mp h c (List.mem_range.mpr hc)
  · rintro rfl
    decide

theorem popcount_eq_one_iff {x : RowWord} : popcount x = 1 ↔ ∃ k < 16, x = BitVec.twoPow 16 k := by
  constructor
  · intro h
    rw [popcount, List.countP_eq_length_filter] at h
    obtain ⟨k, hk⟩ := List.length_eq_one_iff.mp h
    have hset : ∀ c, c < 16 ∧ x.getLsbD c = true ↔ c = k := fun c => by
      rw [← List.mem_singleton (a := c), ← hk, List.mem_filter, List.mem_range]
    obtain ⟨hk16, _⟩ := (hset k).mpr rfl
    refine ⟨k, hk16, BitVec.eq_of_getLsbD_eq fun c hc => Bool.eq_iff_iff.mpr ?_⟩
    simpa [hc, hk16, eq_comm (a := k)] using hset c
  · rintro ⟨k, hk, rfl⟩
    have hcount : popcount (BitVec.twoPow 16 k) = (List.range 16).count k :=
      List.countP_congr fun c _ => by simp [hk, eq_comm (a := k)]
    rw [hcount]
    exact List.count_eq_one_of_mem List.nodup_range (List.mem_range.mpr hk)

theorem fewerThanTwoBits_iff {x : RowWord} : fewerThanTwoBits x = true ↔ popcount x ≤ 1 := by
  rw [fewerThanTwoBits_iff_eq_twoPow, Nat.le_one_iff_eq_zero_or_eq_one, popcount_eq_zero_iff, popcount_eq_one_iff]

/-- A word that contains another has at least its bits. -/
theorem popcount_le_of_contains {x y : RowWord} (h : y &&& x = x) : popcount x ≤ popcount y := by
  refine List.countP_mono_left fun c _ hc => ?_
  rw [← h, BitVec.getLsbD_and] at hc
  exact Bool.and_elim_left hc

/-! ### The pairs of rows the detector looks for (R220, R221) -/

/-- Row r has at least two bits set, and the other row i contains them (R221). -/
def GhostPair (s : State) (i r : Nat) : Prop :=
  i < s.cfg.rows ∧ r < s.cfg.rows ∧ i ≠ r ∧ 2 ≤ popcount (committedWord s r) ∧
    committedWord s i &&& committedWord s r = committedWord s r

theorem ghostInRow_iff {s : State} {r : Nat} :
    ghostInRow s r = true ↔
      2 ≤ popcount (committedWord s r) ∧
        ∃ i < s.cfg.rows, i ≠ r ∧ committedWord s i &&& committedWord s r = committedWord s r := by
  have htwo : fewerThanTwoBits (committedWord s r) = true ↔ ¬ 2 ≤ popcount (committedWord s r) := by
    rw [fewerThanTwoBits_iff]
    omega
  by_cases h : 2 ≤ popcount (committedWord s r) <;> simp [ghostInRow, htwo, h]

/-- GHOST is 1 exactly when a pair is there. -/
theorem ghost_iff {s : State} : ghost s = true ↔ ∃ i r, GhostPair s i r := by
  simp only [ghost, List.any_eq_true, List.mem_range, ghostInRow_iff]
  constructor
  · rintro ⟨r, hr, htwo, i, hi, hne, hcontains⟩
    exact ⟨i, r, hi, hr, hne, htwo, hcontains⟩
  · rintro ⟨i, r, hi, hr, hne, htwo, hcontains⟩
    exact ⟨r, hr, htwo, i, hi, hne, hcontains⟩

/-- Two different rows hold at most the keys of all rows. -/
theorem popcount_add_popcount_le_keyCount {s : State} {i r : Nat} (hi : i < s.cfg.rows) (hr : r < s.cfg.rows)
    (hne : i ≠ r) : popcount (committedWord s i) + popcount (committedWord s r) ≤ keyCount s := by
  have hsum : keyCount s = ∑ k ∈ Finset.range s.cfg.rows, popcount (committedWord s k) := rfl
  rw [hsum]
  exact Finset.add_le_sum (f := fun k => popcount (committedWord s k)) (fun _ _ => Nat.zero_le _)
    (Finset.mem_range.mpr hi) (Finset.mem_range.mpr hr) hne

/-- A pair takes four keys: two in the contained row, and two in the row that contains it (R223 (b)). -/
theorem GhostPair.four_le_keyCount {s : State} {i r : Nat} (h : GhostPair s i r) : 4 ≤ keyCount s := by
  obtain ⟨hi, hr, hne, htwo, hcontains⟩ := h
  have hmore := popcount_le_of_contains hcontains
  have hall := popcount_add_popcount_le_keyCount hi hr hne
  omega

/-! ### The checks and the answers of HAS_GHOST and PRINT_DEBUG (30_encoding.md R98, R99) -/

/-- HAS_GHOST has no operand to check. -/
theorem firstFault_hasGhost {s : State} (hi : s.inited = true) (hg : s.cfg.ghostEn = true) :
    firstFault .hasGhost s = none := by
  rw [firstFault_eq (i := .hasGhost) hg]
  simp [hi, rowOperand, colOperand]

/-- Without the detector, the opcode map is checked before the initialisation (R99). -/
theorem firstFault_hasGhost_without_detector {s : State} (hg : s.cfg.ghostEn = false) :
    firstFault .hasGhost s = some .illegalCommand := by
  simp [firstFault, reservedFault, Instr.wellFormed, hg]

/-- PRINT_DEBUG has no operand to check. -/
theorem firstFault_printDebug {s : State} (hi : s.inited = true) : firstFault .printDebug s = none := by
  rw [firstFault_eq rfl]
  simp [hi, rowOperand, colOperand]

theorem exec_hasGhost {s : State} (hf : s.fault = none) (hi : s.inited = true) (hg : s.cfg.ghostEn = true) :
    exec .hasGhost s = .next (respond (boolWord (ghost s)) s) :=
  exec_passes hf (firstFault_hasGhost hi hg)

theorem exec_printDebug {s : State} (hf : s.fault = none) (hi : s.inited = true) :
    exec .printDebug s = .next (printDebugBody s) :=
  exec_passes hf (firstFault_printDebug hi)

/-! ### The statements (R221 to R223) -/

/-- Settles O48: GHOST is 1 exactly when a pair is there, and the opcode map is the first check. -/
theorem hasGhostFindsAContainedRow : Obligations.HasGhostFindsAContainedRow := by
  intro s hf
  refine ⟨fun hi hg => ⟨ghost s, exec_hasGhost hf hi hg, ?_⟩, fun hg => ?_⟩
  · simp only [← List.countP_eq_length_filter]
    exact ghost_iff
  · exact exec_raises hf (firstFault_hasGhost_without_detector hg)

/-- Settles O49: a pair needs a row with two keys and four keys in all. -/
theorem fewKeysAreNoGhost : Obligations.FewKeysAreNoGhost := by
  intro s hf hi hg hfew
  have hnone : ghost s = false := by
    rw [Bool.eq_false_iff, Ne, ghost_iff]
    rintro ⟨i, r, hpair⟩
    have hfour := hpair.four_le_keyCount
    obtain ⟨_, hr, _, htwo, _⟩ := hpair
    rcases hfew with hrows | hall
    · have hone := hrows r hr
      omega
    · omega
  rw [exec_hasGhost hf hi hg, hnone]
  rfl

/-- Settles O50: each of two equal rows contains the other. -/
theorem equalRowsAreAGhost : Obligations.EqualRowsAreAGhost := by
  intro s i r hf hin hg hi hr hne heq htwo
  have hpair : GhostPair s i r := ⟨hi, hr, hne, htwo, by rw [heq, BitVec.and_self]⟩
  rw [exec_hasGhost hf hin hg, ghost_iff.mpr ⟨i, r, hpair⟩]
  rfl

/-- Settles O51: the rule of PRINT_DEBUG writes the ports alone. -/
theorem printDebugChangesNoState : Obligations.PrintDebugChangesNoState := by
  intro s hf hi
  have hports : onlyPortsDiffer s (printDebugBody s) :=
    onlyPortsDiffer_commandBody (i := .printDebug) (by decide) (by decide) s
  exact ⟨_, exec_printDebug hf hi, rfl, hports.sameRegisters, hf, hports.sameEnvironment⟩

end Sys2Proof.Machine

end GhostDetector

/-! ## Faults, idle cycles and progress (60_exceptions.md) -/

section Exceptions

namespace Sys2Proof.Machine

/-! ### A step that accepts no word -/

/-- A reset edge, whatever the sequencer does (70_reset_and_hazards.md R280). -/
theorem step_of_reset {s : State} {rest : List Input} (hin : s.inputs = .reset :: rest) :
    step s = .next (hardwareReset { s with inputs := rest }) := by
  simp [step, hin]

/-- An idle sequencer with nothing presented ends the response pulse (R259). -/
theorem step_of_idle {s : State} (hin : s.inputs = []) (hb : s.busy = false) : step s = .next (clearResponse s) := by
  simp [step, hin, hb]

/-- Settles O12: ending the response pulse changes the response port alone. -/
theorem idleCycleHoldsTheState : Obligations.IdleCycleHoldsTheState := by
  intro s hin hb
  rw [step_of_idle hin hb]
  rfl

/-! ### Progress (R260, R261) -/

/-- Every word is answered, by the command it selects or as a reserved word. -/
theorem exists_acceptWord_eq_next (w : CommandWord) (s : State) : ∃ t, acceptWord w s = .next t := by
  cases hd : decode s.cfg.ghostEn w with
  | command i => exact ⟨_, (acceptWord_command hd).trans (exec_eq_runCommand i s)⟩
  | reserved why => exact ⟨_, acceptWord_reserved hd⟩

/-- Settles O10, one case for each thing that can be presented and each value of BUSY. -/
theorem everyStepAnswersANextState : Obligations.EveryStepAnswersANextState := by
  intro s
  cases hin : s.inputs with
  | nil =>
    cases hb : s.busy with
    | true => exact ⟨_, step_of_running hb (by simp [hin])⟩
    | false => exact ⟨_, step_of_idle hin hb⟩
  | cons i rest =>
    cases i with
    | reset => exact ⟨_, step_of_reset hin⟩
    | command w =>
      cases hb : s.busy with
      | true => exact ⟨_, step_of_waiting hin hb⟩
      | false =>
        rw [step_of_accepted hin hb]
        exact exists_acceptWord_eq_next w _

/-! ### The sticky fault (R242, R252) -/

/-- On a faulted block an accepted word is taken off the port and answered with an error, and nothing else changes. -/
theorem step_of_accepted_sticky {s : State} {w : CommandWord} {rest : List Input} {f : FaultRecord}
    (hin : s.inputs = .command w :: rest) (hb : s.busy = false) (hf : s.fault = some f) :
    step s = .next (stickyFault { s with inputs := rest }) := by
  rw [step_of_accepted hin hb]
  exact acceptWord_sticky (s := { s with inputs := rest }) hf w

/-- Settles O7: neither a phase of a scan, nor an idle cycle, nor the sticky answer to a word writes FAULT. -/
theorem faultIsKeptUntilReset : Obligations.FaultIsKeptUntilReset := by
  intro s t f h hf hreset
  cases hb : s.busy with
  | true =>
    rw [step_of_running hb hreset] at h
    cases h
    exact (tick_fault s).trans hf
  | false =>
    cases hin : s.inputs with
    | nil =>
      rw [step_of_idle hin hb] at h
      cases h
      exact (clearResponse_fault s).trans hf
    | cons i rest =>
      cases i with
      | reset => simp [hin] at hreset
      | command w =>
        rw [step_of_accepted_sticky hin hb hf] at h
        cases h
        exact hf

/-! ### Commands before INIT (R241, R243) -/

/-- Of a command of the board other than INIT, the initialisation is checked before the operands (R248). -/
theorem firstFault_uninitialised {i : Instr} {s : State} (hi : i ≠ .init) (hw : i.wellFormed s.cfg.ghostEn = true)
    (hn : s.inited = false) : firstFault i s = some .notInitialised := by
  rw [firstFault_eq hw, if_pos ⟨hi, hn⟩]

/-- Settles O19: the command raises its first fault. -/
theorem commandBeforeInitFaults : Obligations.CommandBeforeInitFaults := by
  intro s i hi hw hf hn
  exact exec_raises hf (firstFault_uninitialised hi hw hn)

end Sys2Proof.Machine

end Exceptions

/-! ## Reset and hazards (70_reset_and_hazards.md) -/

section ResetAndHazards

namespace Sys2Proof.Machine

/-! ### The reset edge (R280; 10_state.md R39) -/

/-- Settles O9: hardware reset writes the state of the block, and keeps the board and what is still to be presented. -/
theorem resetEdgeRestoresTheResetState : Obligations.ResetEdgeRestoresTheResetState := by
  intro s rest hin
  refine ⟨_, step_of_reset hin, ⟨hardwareReset_rowDir _, hardwareReset_rowOut _⟩, ?_⟩
  simp

/-! ### An open window (R283, R291) -/

/-- While CNT is not 0 neither policy shows a change (42_debounce_swap_buffer.md R163; 43_debounce_integrator.md R183). -/
theorem modified_of_cnt_ne_zero {s : State} (h : s.cnt ≠ 0) : modified s = false := by
  rw [← Bool.not_eq_true]
  cases hp : s.cfg.policy with
  | a =>
    rw [modified, hp, modifiedA_iff]
    exact fun ⟨hz, _⟩ => h hz
  | b => exact mt (modified_iff_b hp).mp h

theorem cnt_ne_zero_of_toNat_pos {s : State} (h : 0 < s.cnt.toNat) : s.cnt ≠ 0 := fun hz => by simp [hz] at h

/-! ### The first scans after INIT (R283) -/

/-- A scan that reads what both banks hold writes neither: the staged words change nothing, and a commit copies a bank
over its equal. -/
theorem scanBody_mem_of_same_reads {s : State} (hc : s.cfg.wellFormed = true) (hw : s.mem.wf s.cfg.rows = true)
    (hreads : ∀ b, s.mem.bank b = scanWords s) : (scanBody s).mem = s.mem := by
  apply Memory.ext_bank
  intro b
  rw [hreads]
  rcases Bank.eq_or_eq_other b (writeTarget (policyStart s)) with rfl | rfl
  · exact scanBody_bank_target hc hw
  · rw [scanBody_bank_other hc hw, hreads, ite_self]

/-- Scans that all read the table that both banks hold leave the banks as they are, and each counts down once. -/
theorem iterate_scanBody_of_same_reads {s : State} {T : List RowWord} (hc : s.cfg.wellFormed = true)
    (hw : s.mem.wf s.cfg.rows = true) (hbanks : ∀ b, s.mem.bank b = T) {k : Nat}
    (hreads : ∀ j, j < k → upcomingWords s j = T) :
    (scanBody^[k] s).mem = s.mem ∧ (scanBody^[k] s).cnt.toNat = s.cnt.toNat - k := by
  induction k with
  | zero => exact ⟨rfl, rfl⟩
  | succ k ih =>
    obtain ⟨hmem, hcnt⟩ := ih fun j hj => hreads j (by omega)
    have hcfg := iterate_scanBody_cfg s k
    have hnext : scanWords (scanBody^[k] s) = T := (scanWords_iterate s k).trans (hreads k (by omega))
    have hlegal : (scanBody^[k] s).cfg.wellFormed = true := by rwa [hcfg]
    have hstore : (scanBody^[k] s).mem.wf (scanBody^[k] s).cfg.rows = true := by rwa [hmem, hcfg]
    have hsame : ∀ b, (scanBody^[k] s).mem.bank b = scanWords (scanBody^[k] s) := fun b => by
      rw [hnext, hmem, hbanks]
    rw [Function.iterate_succ_apply']
    constructor
    · rw [scanBody_mem_of_same_reads hlegal hstore hsame, hmem]
    · rw [scanBody_cnt hlegal hstore, if_pos (hsame _).symm, hcnt]
      omega

/-- Settles O20: INIT clears both banks and sets CNT to DEBOUNCE, and scans that read nothing pressed only count down. -/
theorem firstScansAfterInitAreAWindow : Obligations.FirstScansAfterInitAreAWindow := by
  intro s s0 hc hready hn _ hinit hreads k hk
  obtain ⟨_, hf⟩ := hready
  rw [exec_init hf hn] at hinit
  cases hinit
  have hcfg : (initBody s).cfg = s.cfg := by rw [initBody_eq]
  have hfault : (initBody s).fault = none := by simpa [initBody_eq] using hf
  have hinited : (initBody s).inited = true := by rw [initBody_eq]
  have hstart : (initBody s).cnt = s.cfg.debounce := by rw [initBody_eq]
  have hstore : (initBody s).mem.wf (initBody s).cfg.rows = true := by
    rw [initBody_eq]
    exact clearedMemory_wf _
  obtain ⟨hmem, hcnt⟩ := iterate_scanBody_of_same_reads (by rwa [hcfg]) hstore (initBody_bank s)
    (k := k) fun j hj => hreads j (by omega)
  rw [hstart] at hcnt
  refine ⟨_, afterScans_eq hfault hinited k, hcnt, hmem, fun hlt => ?_⟩
  exact modified_of_cnt_ne_zero (cnt_ne_zero_of_toNat_pos (by omega))

/-! ### One difference (R291) -/

/-- Settles O33: the difference restarts CNT at DEBOUNCE, so the one decrement of the scan does not bring it to 0. -/
theorem oneDifferenceHoldsOffTheCommit : Obligations.OneDifferenceHoldsOffTheCommit := by
  intro s t h hop hd hdiffer ht
  obtain ⟨⟨_, hf⟩, hi⟩ := hop
  rw [exec_scan hf hi] at ht
  cases ht
  have hcnt : (scanBody s).cnt.toNat = s.cfg.debounce.toNat - 1 := by
    rw [scanBody_cnt h.legal h.store, if_neg hdiffer]
  have hopen : (scanBody s).cnt ≠ 0 := cnt_ne_zero_of_toNat_pos (by omega)
  refine ⟨modified_of_cnt_ne_zero hopen, fun hp => ?_⟩
  have hpublished := scanBody_bank_other h.legal h.store
  rw [if_neg fun hend => hopen hend.2, writeTarget_policyStart_b hp] at hpublished
  exact hpublished

end Sys2Proof.Machine

end ResetAndHazards
